-- ==== Sys2Proof/Word.lean ====
section
/-! DEFINITION. The widths of the QRC core: the 32-bit command and register word, the 16-bit immediate, the byte,
and the name of a polynomial register. -/

namespace Sys2Proof

/-- A command word and a host-visible register (10_state.md R23, R24; 30_encoding.md R80). -/
abbrev Word := BitVec 32

/-- The immediate and value field of formats I, P and S (30_encoding.md R85 to R87). -/
abbrev Half := BitVec 16

/-- A byte operand, an element of GF(256), a codeword (30_encoding.md R83, R84; 41_galois_field.md R110). -/
abbrev Byte := BitVec 8

/-- The number of a polynomial register, `P[0..3]` (10_state.md R41; `NPOLY` of 00_scope.md R9). -/
abbrev PReg := Fin 4

end Sys2Proof
end

