-- ==== Sys2Proof/Syntax.lean ====
section
/-! DEFINITION. The 51 commands of QRC-CMD revision 1, one constructor per row of 30_encoding.md R89. A field that a
command's format carries stands here at its format's width; its encoding range is WellFormed.lean's. -/

namespace Sys2Proof

/-- A legal-shaped command with its operand fields (30_encoding.md R82 to R89). -/
inductive Instr where
  /-- NOP, format Z (R300). -/
  | nop
  /-- ERR_CLR, format Z (R301). -/
  | errClr
  /-- SOFT_RESET, format Z (R302). -/
  | softReset
  /-- ID, format Z (R303). -/
  | ident
  /-- GF_EXP, format I; the immediate is read signed (R112). -/
  | gfExp (imm : Half)
  /-- GF_LOG, format B (R113). -/
  | gfLog (b : Byte)
  /-- GF_MUL, format AB (R115). -/
  | gfMul (a b : Byte)
  /-- GF_ADD, format AB (R116). -/
  | gfAdd (a b : Byte)
  /-- BCH_FMT, format B (R118). -/
  | bchFmt (b : Byte)
  /-- BCH_VER, format B (R119). -/
  | bchVer (b : Byte)
  /-- P_CLR, format P, field PD (R132). -/
  | pClr (pd : PReg)
  /-- P_PUSH, format P, fields PD and IMM (R133). -/
  | pPush (pd : PReg) (imm : Half)
  /-- P_SHIFT, format P, fields PD, PA and IMM (R134). -/
  | pShift (pd pa : PReg) (imm : Half)
  /-- P_MUL, format P, fields PD, PA and PB (R135). -/
  | pMul (pd pa pb : PReg)
  /-- P_MOD, format P, fields PD, PA and PB (R136). -/
  | pMod (pd pa pb : PReg)
  /-- P_GEN, format P, fields PD and IMM (R137). -/
  | pGen (pd : PReg) (imm : Half)
  /-- P_LEN, format P, field PA (R138). -/
  | pLen (pa : PReg)
  /-- P_GET, format P, fields PA and IMM (R139). -/
  | pGet (pa : PReg) (imm : Half)
  /-- BB_CLR, format Z (R162). -/
  | bbClr
  /-- BB_PUT, format S (R163). -/
  | bbPut (size : BitVec 5) (val : Half)
  /-- BB_PUTBIT, format B (R164). -/
  | bbPutBit (b : Byte)
  /-- BB_GET, format I (R166). -/
  | bbGet (imm : Half)
  /-- BB_GETBYTE, format I (R167). -/
  | bbGetByte (imm : Half)
  /-- BB_LEN, format Z (R168). -/
  | bbLen
  /-- SYM_CFG, format AB: version, ECL code (R180). -/
  | symCfg (a b : Byte)
  /-- SEG_BEGIN, format Z (R189). -/
  | segBegin
  /-- SEG_BYTE, format B (R190). -/
  | segByte (b : Byte)
  /-- ENC_DATA, format Z (R196). -/
  | encData
  /-- ENC_RS, format Z (R198). -/
  | encRs
  /-- ENC_ILV, format Z (R199). -/
  | encIlv
  /-- CW_LEN, format Z (R202). -/
  | cwLen
  /-- CW_GET, format I (R203). -/
  | cwGet (imm : Half)
  /-- PLAN_CNT, format Z (R204). -/
  | planCnt
  /-- PLAN_GET, format I (R205). -/
  | planGet (imm : Half)
  /-- MX_CLR, format Z (R232). -/
  | mxClr
  /-- MX_FINDER, format Z (R234). -/
  | mxFinder
  /-- MX_ALIGN, format Z (R237). -/
  | mxAlign
  /-- MX_TIMING, format Z (R240). -/
  | mxTiming
  /-- MX_FORMAT, format AB: mask id, trial flag (R241). -/
  | mxFormat (a b : Byte)
  /-- MX_VERSION, format B: trial flag (R244). -/
  | mxVersion (b : Byte)
  /-- MX_DATA, format B: mask id (R245). -/
  | mxData (b : Byte)
  /-- MX_BUILD, format AB: mask id, trial flag (R247). -/
  | mxBuild (a b : Byte)
  /-- MX_RD, format AB: row, column (R248). -/
  | mxRd (a b : Byte)
  /-- MS_SCORE, format B: slot (R272). -/
  | msScore (b : Byte)
  /-- MS_SELECT, format Z (R276). -/
  | msSelect
  /-- PEN_GET, format AB: slot, part (R277). -/
  | penGet (a b : Byte)
  /-- BUILD, format Z (R290). -/
  | build
  /-- RD_COUNT, format Z (R291). -/
  | rdCount
  /-- RD_DARK, format AB: row, column (R292). -/
  | rdDark (a b : Byte)
  /-- RD_MASK, format Z (R294). -/
  | rdMask
  /-- RD_CFG, format Z (R295). -/
  | rdCfg
  deriving DecidableEq, Repr

end Sys2Proof
end

