-- ==== Sys2Proof/WellFormed.lean ====
section
/-! DEFINITION. The encoding ranges of 30_encoding.md R90 (c), the only checks on a command's operands that need no
state and are not already the width of the field. -/

namespace Sys2Proof

/-- Every operand is inside its encoding range (R89, column "fields"; R90 (c)). A command whose row gives no range
takes every value of its fields (R91). -/
def Instr.wellFormed : Instr → Bool
  | .bbPut size _ => decide (size.toNat ≤ 16)
  | .bbPutBit b => decide (b.toNat ≤ 1)
  | .bchFmt b => decide (b.toNat ≤ 0x1F)
  | .bchVer b => decide (b.toNat ≤ 0x3F)
  | .pPush _ imm => decide (imm.toNat ≤ 0xFF)
  | .mxFormat _ b => decide (b.toNat ≤ 1)
  | .mxVersion b => decide (b.toNat ≤ 1)
  | .mxBuild _ b => decide (b.toNat ≤ 1)
  | .penGet _ b => decide (b.toNat ≤ 3)
  | .nop | .errClr | .softReset | .ident => true
  | .gfExp _ | .gfLog _ | .gfMul _ _ | .gfAdd _ _ => true
  | .pClr _ | .pShift _ _ _ | .pMul _ _ _ | .pMod _ _ _ | .pGen _ _ | .pLen _ | .pGet _ _ => true
  | .bbClr | .bbGet _ | .bbGetByte _ | .bbLen => true
  | .symCfg _ _ | .segBegin | .segByte _ | .encData | .encRs | .encIlv => true
  | .cwLen | .cwGet _ | .planCnt | .planGet _ => true
  | .mxClr | .mxFinder | .mxAlign | .mxTiming | .mxData _ | .mxRd _ _ => true
  | .msScore _ | .msSelect => true
  | .build | .rdCount | .rdDark _ _ | .rdMask | .rdCfg => true

end Sys2Proof
end

