-- ==== Sys2Proof/Decode.lean ====
section
/-! DEFINITION. The decoder of 30_encoding.md R81 to R90 and R101, total on 32-bit words, and after it the encoder
written from the same formats. -/

namespace Sys2Proof

/-- Why a word is illegal: the letter of 30_encoding.md R90, in the order the checks run (60_exceptions.md R314). -/
inductive IllegalReason where
  /-- R90 (a). -/
  | unassignedOpcode
  /-- R90 (b). -/
  | reservedFieldNotZero
  /-- R90 (c). -/
  | operandOutOfRange
  deriving DecidableEq, Repr

/-! ## Fields of a word -/

/-- `OPC = w[31:24]` (R81). -/
def opcodeField (w : Word) : Byte := w.extractLsb' 24 8

/-- `A = w[15:8]` (R84). -/
def fieldA (w : Word) : Byte := w.extractLsb' 8 8

/-- `B = w[7:0]` (R83, R84). -/
def fieldB (w : Word) : Byte := w.extractLsb' 0 8

/-- `IMM = w[15:0]` (R85, R86), and `VAL` (R87). -/
def fieldImm (w : Word) : Half := w.extractLsb' 0 16

/-- `SIZE = w[20:16]` (R87). -/
def fieldSize (w : Word) : BitVec 5 := w.extractLsb' 16 5

/-- The polynomial register a 2-bit field names (R86, R88). -/
def pregOf (x : BitVec 2) : PReg := ⟨x.toNat, x.isLt⟩

/-- `PD = w[21:20]` (R86). -/
def fieldPD (w : Word) : PReg := pregOf (w.extractLsb' 20 2)

/-- `PA = w[19:18]` (R86). -/
def fieldPA (w : Word) : PReg := pregOf (w.extractLsb' 18 2)

/-- `PB = w[17:16]` (R86). -/
def fieldPB (w : Word) : PReg := pregOf (w.extractLsb' 16 2)

/-! ## Formats: the must-be-zero bits, then the fields -/

/-- The command `i` when the bits `[lo+len-1 : lo]` of the word, which its format or row reserves, are 0 (R90 (b)). -/
def ifZero (w : Word) (lo len : Nat) (i : Except IllegalReason Instr) : Except IllegalReason Instr :=
  if w.extractLsb' lo len = 0 then i else .error .reservedFieldNotZero

/-- Format Z: `w[23:0]` must be 0 (R82). -/
def formatZ (w : Word) (i : Instr) : Except IllegalReason Instr := ifZero w 0 24 (.ok i)

/-- Format B: `w[23:8]` must be 0 (R83). -/
def formatB (w : Word) (i : Byte → Instr) : Except IllegalReason Instr := ifZero w 8 16 (.ok (i (fieldB w)))

/-- Format AB: `w[23:16]` must be 0 (R84). -/
def formatAB (w : Word) (i : Byte → Byte → Instr) : Except IllegalReason Instr :=
  ifZero w 16 8 (.ok (i (fieldA w) (fieldB w)))

/-- Format I: `w[23:16]` must be 0 (R85). -/
def formatI (w : Word) (i : Half → Instr) : Except IllegalReason Instr := ifZero w 16 8 (.ok (i (fieldImm w)))

/-- Format S: `w[23:21]` must be 0 (R87). -/
def formatS (w : Word) (i : BitVec 5 → Half → Instr) : Except IllegalReason Instr :=
  ifZero w 21 3 (.ok (i (fieldSize w) (fieldImm w)))

/-- Format P: `w[23:22]` must be 0 (R86). The fields a row does not use are checked by the row, with the `unused`
operations below (R89, R90 (b)). -/
def formatP (w : Word) (i : Except IllegalReason Instr) : Except IllegalReason Instr := ifZero w 22 2 i

/-- An unused `PD` must be 0 (R86). -/
def unusedPD (w : Word) (i : Except IllegalReason Instr) : Except IllegalReason Instr := ifZero w 20 2 i

/-- An unused `PA` must be 0 (R86). -/
def unusedPA (w : Word) (i : Except IllegalReason Instr) : Except IllegalReason Instr := ifZero w 18 2 i

/-- An unused `PB` must be 0 (R86). -/
def unusedPB (w : Word) (i : Except IllegalReason Instr) : Except IllegalReason Instr := ifZero w 16 2 i

/-- An unused `IMM` must be 0 (R86). -/
def unusedImm (w : Word) (i : Except IllegalReason Instr) : Except IllegalReason Instr := ifZero w 0 16 i

/-! ## The opcode map -/

/-- The opcode map of R89 with the field checks of R90 (a) and (b). -/
def decodeFields (w : Word) : Except IllegalReason Instr :=
  match (opcodeField w).toNat with
  | 0x00 => formatZ w .nop
  | 0x01 => formatZ w .errClr
  | 0x02 => formatZ w .softReset
  | 0x03 => formatZ w .ident
  | 0x10 => formatI w .gfExp
  | 0x11 => formatB w .gfLog
  | 0x12 => formatAB w .gfMul
  | 0x13 => formatAB w .gfAdd
  | 0x14 => formatB w .bchFmt
  | 0x15 => formatB w .bchVer
  | 0x20 => formatP w (unusedPA w (unusedPB w (unusedImm w (.ok (.pClr (fieldPD w))))))
  | 0x21 => formatP w (unusedPA w (unusedPB w (.ok (.pPush (fieldPD w) (fieldImm w)))))
  | 0x22 => formatP w (unusedPB w (.ok (.pShift (fieldPD w) (fieldPA w) (fieldImm w))))
  | 0x23 => formatP w (unusedImm w (.ok (.pMul (fieldPD w) (fieldPA w) (fieldPB w))))
  | 0x24 => formatP w (unusedImm w (.ok (.pMod (fieldPD w) (fieldPA w) (fieldPB w))))
  | 0x25 => formatP w (unusedPA w (unusedPB w (.ok (.pGen (fieldPD w) (fieldImm w)))))
  | 0x26 => formatP w (unusedPD w (unusedPB w (unusedImm w (.ok (.pLen (fieldPA w))))))
  | 0x27 => formatP w (unusedPD w (unusedPB w (.ok (.pGet (fieldPA w) (fieldImm w)))))
  | 0x30 => formatZ w .bbClr
  | 0x31 => formatS w .bbPut
  | 0x32 => formatB w .bbPutBit
  | 0x33 => formatI w .bbGet
  | 0x34 => formatI w .bbGetByte
  | 0x35 => formatZ w .bbLen
  | 0x40 => formatAB w .symCfg
  | 0x41 => formatZ w .segBegin
  | 0x42 => formatB w .segByte
  | 0x43 => formatZ w .encData
  | 0x44 => formatZ w .encRs
  | 0x45 => formatZ w .encIlv
  | 0x46 => formatZ w .cwLen
  | 0x47 => formatI w .cwGet
  | 0x48 => formatZ w .planCnt
  | 0x49 => formatI w .planGet
  | 0x50 => formatZ w .mxClr
  | 0x51 => formatZ w .mxFinder
  | 0x52 => formatZ w .mxAlign
  | 0x53 => formatZ w .mxTiming
  | 0x54 => formatAB w .mxFormat
  | 0x55 => formatB w .mxVersion
  | 0x56 => formatB w .mxData
  | 0x57 => formatAB w .mxBuild
  | 0x58 => formatAB w .mxRd
  | 0x60 => formatB w .msScore
  | 0x61 => formatZ w .msSelect
  | 0x62 => formatAB w .penGet
  | 0x70 => formatZ w .build
  | 0x71 => formatZ w .rdCount
  | 0x72 => formatAB w .rdDark
  | 0x73 => formatZ w .rdMask
  | 0x74 => formatZ w .rdCfg
  | _ => .error .unassignedOpcode

/-- The encoding ranges, checked last (R90 (c)). -/
def checkRanges (i : Instr) : Except IllegalReason Instr :=
  if i.wellFormed then .ok i else .error .operandOutOfRange

/-- The decoder: one row of R89 with its fields, or the reason the word is illegal (R101). -/
def decode (w : Word) : Except IllegalReason Instr :=
  match decodeFields w with
  | .error r => .error r
  | .ok i => checkRanges i

/-! ## The encoder -/

/-- The opcode byte of a command (R89). -/
def Instr.opcode : Instr → Byte
  | .nop => 0x00
  | .errClr => 0x01
  | .softReset => 0x02
  | .ident => 0x03
  | .gfExp _ => 0x10
  | .gfLog _ => 0x11
  | .gfMul _ _ => 0x12
  | .gfAdd _ _ => 0x13
  | .bchFmt _ => 0x14
  | .bchVer _ => 0x15
  | .pClr _ => 0x20
  | .pPush _ _ => 0x21
  | .pShift _ _ _ => 0x22
  | .pMul _ _ _ => 0x23
  | .pMod _ _ _ => 0x24
  | .pGen _ _ => 0x25
  | .pLen _ => 0x26
  | .pGet _ _ => 0x27
  | .bbClr => 0x30
  | .bbPut _ _ => 0x31
  | .bbPutBit _ => 0x32
  | .bbGet _ => 0x33
  | .bbGetByte _ => 0x34
  | .bbLen => 0x35
  | .symCfg _ _ => 0x40
  | .segBegin => 0x41
  | .segByte _ => 0x42
  | .encData => 0x43
  | .encRs => 0x44
  | .encIlv => 0x45
  | .cwLen => 0x46
  | .cwGet _ => 0x47
  | .planCnt => 0x48
  | .planGet _ => 0x49
  | .mxClr => 0x50
  | .mxFinder => 0x51
  | .mxAlign => 0x52
  | .mxTiming => 0x53
  | .mxFormat _ _ => 0x54
  | .mxVersion _ => 0x55
  | .mxData _ => 0x56
  | .mxBuild _ _ => 0x57
  | .mxRd _ _ => 0x58
  | .msScore _ => 0x60
  | .msSelect => 0x61
  | .penGet _ _ => 0x62
  | .build => 0x70
  | .rdCount => 0x71
  | .rdDark _ _ => 0x72
  | .rdMask => 0x73
  | .rdCfg => 0x74

/-- Bits 15:8 and 7:0 of a format-AB word (R84). -/
def bitsAB (a b : Byte) : Word := a.setWidth 32 <<< 8 ||| b.setWidth 32

/-- Bits 7:0 of a format-B word (R83). -/
def bitsB (b : Byte) : Word := b.setWidth 32

/-- Bits 15:0 of a format-I, P or S word (R85 to R87). -/
def bitsImm (imm : Half) : Word := imm.setWidth 32

/-- Bits 21:20 of a format-P word (R86). -/
def bitsPD (r : PReg) : Word := BitVec.ofNat 32 r.val <<< 20

/-- Bits 19:18 of a format-P word (R86). -/
def bitsPA (r : PReg) : Word := BitVec.ofNat 32 r.val <<< 18

/-- Bits 17:16 of a format-P word (R86). -/
def bitsPB (r : PReg) : Word := BitVec.ofNat 32 r.val <<< 16

/-- Bits 23:0 of the command's word; a bit its format or row reserves is 0 (R82 to R87, R89). -/
def Instr.operandBits : Instr → Word
  | .gfExp imm | .bbGet imm | .bbGetByte imm | .cwGet imm | .planGet imm => bitsImm imm
  | .gfLog b | .bchFmt b | .bchVer b | .bbPutBit b | .segByte b | .mxVersion b | .mxData b | .msScore b => bitsB b
  | .gfMul a b | .gfAdd a b | .symCfg a b | .mxFormat a b | .mxBuild a b | .mxRd a b | .penGet a b
  | .rdDark a b => bitsAB a b
  | .pClr pd => bitsPD pd
  | .pPush pd imm | .pGen pd imm => bitsPD pd ||| bitsImm imm
  | .pShift pd pa imm => bitsPD pd ||| bitsPA pa ||| bitsImm imm
  | .pMul pd pa pb | .pMod pd pa pb => bitsPD pd ||| bitsPA pa ||| bitsPB pb
  | .pLen pa => bitsPA pa
  | .pGet pa imm => bitsPA pa ||| bitsImm imm
  | .bbPut size val => size.setWidth 32 <<< 16 ||| bitsImm val
  | .nop | .errClr | .softReset | .ident | .bbClr | .bbLen | .segBegin | .encData | .encRs | .encIlv | .cwLen
  | .planCnt | .mxClr | .mxFinder | .mxAlign | .mxTiming | .msSelect | .build | .rdCount | .rdMask | .rdCfg => 0

/-- The word of a command (R81 to R89). -/
def encode (i : Instr) : Word := i.opcode.setWidth 32 <<< 24 ||| i.operandBits

/-! ## The host's view of the decoder -/

/-- The instruction the decoder reads from a table word of `nbits` bits, the bits above them 0. Every command is one
32-bit word (R80), so there are no later words. -/
def decodeTableWord (nbits w : Nat) : Option Instr :=
  match decode (BitVec.ofNat 32 (w % 2 ^ nbits)) with
  | .ok i => some i
  | .error _ => none

end Sys2Proof
end

