-- ==== Sys2Proof/Config.lean ====
section
/-! DEFINITION. The implementation parameters of 00_scope.md R9, each at the value this hardware takes. The constant
tables of 10_state.md R48 are in Machine/Tables.lean. -/

namespace Sys2Proof.Config

/-- `VERSION_MIN` and `VERSION_MAX` (R9). -/
def versionMin : Nat := 1

/-- See `versionMin`. -/
def versionMax : Nat := 40

/-- `NUM_MASKS`: mask ids are `0..7` (R9). -/
def numMasks : Nat := 8

/-- `PAY_BYTES`: bytes of the payload RAM (R9). -/
def payBytes : Nat := 4096

/-- `SEG_MAX`: entries of the segment table (R9). -/
def segMax : Nat := 2048

/-- `BB_CAP_BITS`: capacity of the bit buffer in bits (R9). -/
def bbCapBits : Nat := 32768

/-- `PMAX`: coefficients of one polynomial register (R9). -/
def pMax : Nat := 512

/-- `CW_MAX`: bytes of the interleaved codeword RAM (R9). -/
def cwMax : Nat := 3706

/-- `ID_VALUE`: ASCII "QRC" followed by the command-set revision 1 (R9, 10_state.md R33). -/
def idValue : Word := 0x51524301#32

/-- The choices of `TRIAL_DARK_MODULE`, the fixed dark module in a trial matrix (R9, 92_eei_decisions.md D20). -/
inductive TrialDarkModule where
  | dark
  | light
  deriving DecidableEq, Repr

/-- The choices of `TRIAL_VERSION_BITS`, the version bits in a trial matrix (R9, 92_eei_decisions.md D21). -/
inductive TrialVersionBits where
  | real
  | forcedLight
  deriving DecidableEq, Repr

/-- `TRIAL_DARK_MODULE` of this hardware (R9). -/
def trialDarkModule : TrialDarkModule := .dark

/-- `TRIAL_VERSION_BITS` of this hardware (R9). -/
def trialVersionBits : TrialVersionBits := .real

end Sys2Proof.Config
end

