-- ==== Sys2Proof/Machine/State.lean ====
section
/-! DEFINITION. The state of the QRC core as plain data: the record of 10_state.md R50, one field per row (R20), and
the model's own record of the host's side of the bus. -/

namespace Sys2Proof.Machine

/-- A matrix cell (00_scope.md R14). -/
inductive Cell where
  | unset
  | light
  | dark
  deriving DecidableEq, Repr

/-- The matrix: rows top to bottom, each its cells left to right (R14, 10_state.md R42). -/
abbrev Mat := List (List Cell)

/-- One penalty record: the penalties of rules 1, 2 and 3 and the dark-module count (10_state.md R45). -/
structure Penalty where
  r1 : Nat
  r2 : Nat
  r3 : Nat
  dk : Nat
  deriving DecidableEq, Repr

/-- The error kinds, in the order of their codes 1 to 7 (10_state.md R25). -/
inductive ErrKind where
  | configurationError
  | capacityOverflow
  | invalidFieldOperand
  | boundsViolation
  | illegalCommand
  | sequenceError
  | resourceLimit
  deriving DecidableEq, Repr

/-- What the outside world does to the core, one event a step (20_memory.md R65, R66, R68; 70_reset_and_hazards.md
R340, R342). An access names its width in bytes and its offset in the 256-byte window. -/
inductive BusEvent where
  /-- The host reads. -/
  | read (bytes : Nat) (offset : Byte)
  /-- The host writes; a write of 32 bits at the offset of CMD is a command. -/
  | write (bytes : Nat) (offset : Byte) (data : Word)
  /-- The reset input is asserted between two accesses, and released. -/
  | resetInput
  /-- The reset input is asserted while the write of this command word is stalled, and released. -/
  | resetDuring (cmd : Word)
  deriving DecidableEq, Repr

/-- The whole machine. The fields from `err` to `pen` are the architectural state, exactly the rows of 10_state.md R50.
`pending` and `readData` are the model's own: the host's program, and what the bus answered. -/
structure State where
  /-- `STATUS.ERR`, 4 bits (R24 to R26). -/
  err : BitVec 4
  /-- `STATUS.ERR_OPC`, 8 bits (R24, R26). -/
  errOpc : Byte
  /-- `RESULT`, 32 bits (R23). -/
  result : Word
  /-- `VERSION`, 6 bits (R34). -/
  version : BitVec 6
  /-- `ECL`, 2 bits: M=0, L=1, H=2, Q=3 (R34). -/
  ecl : BitVec 2
  /-- `CFG_VALID` (R34). -/
  cfgValid : Bool
  /-- `PAY`, the payload RAM (R36). -/
  pay : List Byte
  /-- `SEG`, the segment lengths (R37). -/
  seg : List Nat
  /-- `BB`, the bit buffer, bit 0 first (R38). -/
  bb : List Bool
  /-- `DC`, the data codewords of each block (R39). -/
  dc : List (List Byte)
  /-- `EC`, the EC codewords of each block (R39). -/
  ec : List (List Byte)
  /-- `RS_VALID` (R39). -/
  rsValid : Bool
  /-- `CW`, the interleaved codewords (R40). -/
  cw : List Byte
  /-- `P[0..3]`, coefficients highest degree first (R41). -/
  poly : Vector (List Byte) 4
  /-- `MAT`, the matrix (R42). -/
  mat : Mat
  /-- `MAT_VALID`, the cache flag (R43). -/
  matValid : Bool
  /-- `SEL`, the chosen mask, 3 bits (R44). -/
  sel : BitVec 3
  /-- `PEN[0..7]` (R45). -/
  pen : Vector Penalty 8
  /-- The bus events still to come, the next one first (20_memory.md R66, R70). -/
  pending : List BusEvent
  /-- The word the last read of the window returned (20_memory.md R66, R68). -/
  readData : Word
  deriving DecidableEq, Repr

/-- The machine never faults: an error of a command is part of the next state (00_scope.md R17), and every command
word in every state has exactly one next state (30_encoding.md R100). -/
inductive Fault where
  deriving DecidableEq, Repr

/-- Where the model has no next state. -/
inductive Refusal where
  /-- Raised by `exec` alone, in the arm of an instruction without a meaning; safe. -/
  | notModelled (mnemonic : String)
  /-- Raised by `step` alone, for an access that is not 32 bits wide or not at a multiple of 4: "a model refuses such
  an access" (20_memory.md R65; 93_implementation_defined.md I20); safe. -/
  | malformedAccess
  deriving DecidableEq, Repr

/-- The state after reset, every field at its value in R50. No command is pending, and the bus has answered nothing:
`readData` is 0 by DESIGN CHOICE (assumption 2; it is no state of the core). -/
def State.reset : State where
  err := 0
  errOpc := 0
  result := 0
  version := 0
  ecl := 0
  cfgValid := false
  pay := []
  seg := []
  bb := []
  dc := []
  ec := []
  rsValid := false
  cw := []
  poly := Vector.replicate 4 []
  mat := []
  matValid := false
  sel := 0
  pen := Vector.replicate 8 ⟨0, 0, 0, 0⟩
  pending := []
  readData := 0

end Sys2Proof.Machine
end

