-- ==== Sys2Proof/Machine/Flags.lean ====
section
/-! DEFINITION. The error codes, the STATUS register and the three valid flags (10_state.md R24, R25, R46). The core has
no condition codes. -/

namespace Sys2Proof.Machine

/-- The code an error kind has in `STATUS.ERR` (R25). -/
def ErrKind.code : ErrKind → BitVec 4
  | .configurationError => 1
  | .capacityOverflow => 2
  | .invalidFieldOperand => 3
  | .boundsViolation => 4
  | .illegalCommand => 5
  | .sequenceError => 6
  | .resourceLimit => 7

/-- The value of a flag as a 32-bit word. -/
def flagBit (b : Bool) : Word := if b then 1 else 0

/-- STATUS: `ERR` in 3:0, `ERR_OPC` in 15:8, `CFG_VALID`, `MAT_VALID` and `RS_VALID` in 16, 17 and 18, the reserved bits
0 (R24). The flags have no other storage than the fields they view. Bit 16 reads `CFG_VALID` while an error is recorded
too, against the first STATUS of R301's example: DEDUCED from R24, R312 and vector ENC-11, assumption 15. -/
def State.status (s : State) : Word :=
  s.err.setWidth 32 ||| s.errOpc.setWidth 32 <<< 8 ||| flagBit s.cfgValid <<< 16 ||| flagBit s.matValid <<< 17 |||
    flagBit s.rsValid <<< 18

/-- `MAT_VALID <- 0`, which every append and every builder command does (R43). -/
def State.clearMatValid (s : State) : State := { s with matValid := false }

/-- `MAT_VALID <- 1`, which only a successful build does (R43). -/
def State.markMatValid (s : State) : State := { s with matValid := true }

/-- `RS_VALID <- 0`, which every command that writes `BB` other than a build does (R39). -/
def State.clearRsValid (s : State) : State := { s with rsValid := false }

end Sys2Proof.Machine
end

