-- ==== Sys2Proof/Machine/Operands.lean ====
section
/-! DEFINITION. What a command's operand fields mean (30_encoding.md R88, R91): every field is unsigned and unscaled,
except the exponent of GF_EXP. The core has no addressing modes (48_control.md R305). -/

namespace Sys2Proof.Machine

/-- `zext_32` of a natural number (00_scope.md R12). -/
def zext32 (n : Nat) : Word := BitVec.ofNat 32 n

/-- `sext_16(IMM)`, the exponent of GF_EXP, in `-32768..32767` (R88, 41_galois_field.md R112). -/
def sext16 (imm : Half) : Int := imm.toInt

/-- A mask id or penalty slot an instruction may name: at most 7 (R91). -/
def isMaskId (b : Byte) : Bool := decide (b.toNat < Config.numMasks)

/-- The trial flag `t`: 1 asks for a trial matrix (45_matrix.md R241, R244, R247). -/
def isTrial (b : Byte) : Bool := b == 1

/-- The coefficient byte of P_PUSH, `IMM <= 0xFF` (42_polynomial.md R133). -/
def coefficient (imm : Half) : Byte := imm.setWidth 8

/-- The ECL code of SYM_CFG, `B <= 3` (44_encoder.md R180, R181). -/
def eclCode (b : Byte) : BitVec 2 := b.setWidth 2

/-- The version of SYM_CFG, `1 <= A <= 40` (44_encoder.md R180). -/
def versionOf (a : Byte) : BitVec 6 := a.setWidth 6

end Sys2Proof.Machine
end

