-- ==== Sys2Proof/Machine/Ops.lean ====
section
/-! DEFINITION. The operations every command shares: checks, the run of one command with the recording of its error and
the discard rule, the return from an error, and the named reads and writes of each register and internal memory. -/

namespace Sys2Proof.Machine

/-! ## Checks and errors -/

/-- `require c else e`: the rest `k` when the check holds, the error `e` otherwise (00_scope.md R12). -/
def require {α : Type} (c : Prop) [Decidable c] (e : ErrKind) (k : Except ErrKind α) : Except ErrKind α :=
  if c then k else .error e

/-- Recording an error (60_exceptions.md R316): the code of its kind and the opcode byte of the failing command, and
nothing else (R312). An error already recorded is kept (R313). -/
def State.recordError (e : ErrKind) (opc : Byte) (s : State) : State :=
  if s.err ≠ 0 then s else { s with err := e.code, errOpc := opc }

/-- The return from an error (R317, 48_control.md R301). -/
def State.clearError (s : State) : State := { s with err := 0, errOpc := 0 }

/-- The opcodes that execute while an error is recorded: ERR_CLR and SOFT_RESET (R313). -/
def executesInError (opc : Byte) : Bool := opc == 0x01 || opc == 0x02

/-- One command, `exec` of 30_encoding.md R100: discarded while an error is recorded unless its opcode is ERR_CLR's or
SOFT_RESET's (R313); otherwise its rule `body` runs on a copy of the state, which is kept when it succeeds and dropped
when it fails (R312), leaving only the recorded error. -/
def runCommand (opc : Byte) (body : State → Except ErrKind State) (s : State) :
    Host.Outcome State Fault Refusal :=
  if s.err ≠ 0 ∧ executesInError opc = false then .next s
  else
    match body s with
    | .ok t => .next t
    | .error e => .next (s.recordError e opc)

/-! ## Configuration -/

/-- `N`, the module count (10_state.md R35). -/
def State.n (s : State) : Nat := if s.cfgValid then 4 * s.version.toNat + 17 else 0

/-- The first check of a command that requires a configured symbol (44_encoder.md, opening; 60_exceptions.md R314). -/
def requireSymbol (s : State) (k : Except ErrKind State) : Except ErrKind State :=
  require (s.cfgValid = true) .sequenceError k

/-- Every architectural field at its reset value; the host's side of the bus as it was (48_control.md R302,
70_reset_and_hazards.md R340). -/
def State.resetCore (s : State) : State := { State.reset with pending := s.pending, readData := s.readData }

/-! ## RESULT -/

/-- `RESULT <- v` (00_scope.md R12). -/
def State.setResult (v : Word) (s : State) : State := { s with result := v }

/-! ## Polynomial registers -/

/-- Reading `P[r]` (10_state.md R41). -/
def State.getPoly (s : State) (r : PReg) : List Byte := s.poly[r]

/-- `P[r] <- l` (R41). -/
def State.setPoly (r : PReg) (l : List Byte) (s : State) : State := { s with poly := s.poly.set r l }

/-! ## Bit buffer (43_bitbuffer.md) -/

/-- The low `size` bits of `v`, most significant first: what `put(v, size)` appends (R161). -/
def msbBits (v size : Nat) : List Bool := (List.range size).map fun i => v.testBit (size - 1 - i)

/-- `bit(i)`: 0 past the end (R165). -/
def bitAt (bb : List Bool) (i : Nat) : Bool := (bb[i]?).getD false

/-- The number whose binary digits are the bits, most significant first. -/
def bitsToNat (bits : List Bool) : Nat := bits.foldl (fun acc b => 2 * acc + b.toNat) 0

/-- `byte(k)`: bits `8k` to `8k+7`, the first its most significant bit (R165). -/
def byteAt (bb : List Bool) (k : Nat) : Byte :=
  BitVec.ofNat 8 (bitsToNat ((List.range 8).map fun i => bitAt bb (8 * k + i)))

/-- `ceil(len(BB)/8)`: the bytes the buffer's storage has (R165). -/
def byteCount (bb : List Bool) : Nat := (bb.length + 7) / 8

/-- A write of `BB` by a command other than a build, which clears `RS_VALID` (R160). -/
def State.writeBb (bb : List Bool) (s : State) : State := ({ s with bb := bb }).clearRsValid

/-! ## Payload (44_encoder.md R189, R190) -/

/-- A new, empty segment at the end of the table (R189). -/
def State.openSegment (s : State) : State := ({ s with seg := s.seg ++ [0] }).clearMatValid

/-- One byte more of the last segment (R190). -/
def State.appendByte (b : Byte) (s : State) : State :=
  ({ s with pay := s.pay ++ [b], seg := s.seg.modify (s.seg.length - 1) (· + 1) }).clearMatValid

/-- The segments as byte lists, in order (10_state.md R37). -/
def segments : List Byte → List Nat → List (List Byte)
  | _, [] => []
  | pay, len :: rest => pay.take len :: segments (pay.drop len) rest

/-! ## Blocks and codewords -/

/-- `DC`, `EC` computed from the current buffer (10_state.md R39). -/
def State.setBlocks (dc ec : List (List Byte)) (s : State) : State := { s with dc := dc, ec := ec, rsValid := true }

/-- `CW <- l` (R40). -/
def State.setCw (l : List Byte) (s : State) : State := { s with cw := l }

/-! ## Matrix (45_matrix.md) -/

/-- An `n × n` matrix of unset cells (R232, 44_encoder.md R180). -/
def clearMat (n : Nat) : Mat := List.replicate n (List.replicate n .unset)

/-- `MAT[r][c]`. -/
def getCell (m : Mat) (r c : Nat) : Cell := ((m[r]?).bind (·[c]?)).getD .unset

/-- `MAT[r][c] <- v`. -/
def setCell (m : Mat) (r c : Nat) (v : Cell) : Mat := m.modify r (·.set c v)

/-- `setu(r, c, v)`: the write happens only if the cell is unset (R231). -/
def setu (m : Mat) (r c : Nat) (v : Cell) : Mat := if getCell m r c = .unset then setCell m r c v else m

/-- Every cell is light or dark (46_mask.md R270). -/
def isComplete (m : Mat) : Bool := m.all fun row => row.all (· != .unset)

/-- `DARK` or `LIGHT` by a bit (00_scope.md R14). -/
def shade (b : Bool) : Cell := if b then .dark else .light

/-- A write of `MAT` by a command other than a build, which clears `MAT_VALID` (10_state.md R43). -/
def State.writeMat (m : Mat) (s : State) : State := ({ s with mat := m }).clearMatValid

/-! ## Penalty records -/

/-- `PEN[i]` (10_state.md R45); a slot above 7 does not exist. -/
def State.getPen (s : State) (i : Nat) : Penalty := (s.pen[i]?).getD ⟨0, 0, 0, 0⟩

/-- `PEN[i] <- p` (R45). -/
def State.setPen (i : Nat) (p : Penalty) (s : State) : State := { s with pen := s.pen.setIfInBounds i p }

/-! ## The register window (20_memory.md R64, R65, R68) -/

/-- The host window admits only 32-bit accesses at multiples of 4 (R65). -/
def accessAdmitted (bytes : Nat) (offset : Byte) : Bool := bytes == 4 && offset.toNat % 4 == 0

/-- What a read of the window returns: CMD and the reserved offsets read 0 (R64, R68; 10_state.md R24, R32, R33). -/
def State.readWindow (s : State) (offset : Byte) : Word :=
  match offset.toNat with
  | 0x04 => s.status
  | 0x08 => s.result
  | 0x0C => Config.idValue
  | _ => 0

end Sys2Proof.Machine
end

