-- ==== Sys2Proof/Machine/BitBuffer.lean ====
section
/-! DEFINITION. The commands of the bit buffer (43_bitbuffer.md). -/

namespace Sys2Proof.Machine

/-- BB_CLR (R162). -/
def execBbClr (s : State) : Host.Outcome State Fault Refusal := runCommand 0x30 (fun s => .ok (s.writeBb [])) s

/-- BB_PUT (R163). -/
def execBbPut (size : BitVec 5) (val : Half) (s : State) : Host.Outcome State Fault Refusal :=
  runCommand 0x31 (fun s =>
    require (s.bb.length + size.toNat ≤ Config.bbCapBits) .resourceLimit <|
    .ok (s.writeBb (s.bb ++ msbBits val.toNat size.toNat))) s

/-- BB_PUTBIT (R164). -/
def execBbPutBit (b : Byte) (s : State) : Host.Outcome State Fault Refusal :=
  runCommand 0x32 (fun s =>
    require (s.bb.length + 1 ≤ Config.bbCapBits) .resourceLimit <|
    .ok (s.writeBb (s.bb ++ [b == 1]))) s

/-- BB_GET (R166). -/
def execBbGet (imm : Half) (s : State) : Host.Outcome State Fault Refusal :=
  runCommand 0x33 (fun s =>
    require (imm.toNat < 8 * byteCount s.bb) .boundsViolation <|
    .ok (s.setResult (flagBit (bitAt s.bb imm.toNat)))) s

/-- BB_GETBYTE (R167). -/
def execBbGetByte (imm : Half) (s : State) : Host.Outcome State Fault Refusal :=
  runCommand 0x34 (fun s =>
    require (imm.toNat < byteCount s.bb) .boundsViolation <|
    .ok (s.setResult ((byteAt s.bb imm.toNat).setWidth 32))) s

/-- BB_LEN (R168). -/
def execBbLen (s : State) : Host.Outcome State Fault Refusal :=
  runCommand 0x35 (fun s => .ok (s.setResult (zext32 s.bb.length))) s

end Sys2Proof.Machine
end

