-- ==== Sys2Proof/Machine/Control.lean ====
section
/-! DEFINITION. The control commands (48_control.md). -/

namespace Sys2Proof.Machine

/-- NOP (R300). -/
def execNop (s : State) : Host.Outcome State Fault Refusal := runCommand 0x00 .ok s

/-- ERR_CLR (R301). -/
def execErrClr (s : State) : Host.Outcome State Fault Refusal := runCommand 0x01 (fun s => .ok s.clearError) s

/-- SOFT_RESET (R302). -/
def execSoftReset (s : State) : Host.Outcome State Fault Refusal := runCommand 0x02 (fun s => .ok s.resetCore) s

/-- ID (R303). -/
def execIdent (s : State) : Host.Outcome State Fault Refusal :=
  runCommand 0x03 (fun s => .ok (s.setResult Config.idValue)) s

end Sys2Proof.Machine
end

