-- ==== Sys2Proof/Machine/Tables.lean ====
section
/-! DEFINITION. The constant tables of 10_state.md R48: the field tables, the BCH constants, the RS block plan and the
alignment positions. They are read-only and hold their values in every state (70_reset_and_hazards.md R341). -/

namespace Sys2Proof.Machine

/-! ## The field tables (41_galois_field.md R110) -/

/-- `EXP[i]`, row = high nibble of the index, column = low nibble (R110). -/
def expTable : List (List Byte) :=
  [[0x01, 0x02, 0x04, 0x08, 0x10, 0x20, 0x40, 0x80, 0x1D, 0x3A, 0x74, 0xE8, 0xCD, 0x87, 0x13, 0x26],
   [0x4C, 0x98, 0x2D, 0x5A, 0xB4, 0x75, 0xEA, 0xC9, 0x8F, 0x03, 0x06, 0x0C, 0x18, 0x30, 0x60, 0xC0],
   [0x9D, 0x27, 0x4E, 0x9C, 0x25, 0x4A, 0x94, 0x35, 0x6A, 0xD4, 0xB5, 0x77, 0xEE, 0xC1, 0x9F, 0x23],
   [0x46, 0x8C, 0x05, 0x0A, 0x14, 0x28, 0x50, 0xA0, 0x5D, 0xBA, 0x69, 0xD2, 0xB9, 0x6F, 0xDE, 0xA1],
   [0x5F, 0xBE, 0x61, 0xC2, 0x99, 0x2F, 0x5E, 0xBC, 0x65, 0xCA, 0x89, 0x0F, 0x1E, 0x3C, 0x78, 0xF0],
   [0xFD, 0xE7, 0xD3, 0xBB, 0x6B, 0xD6, 0xB1, 0x7F, 0xFE, 0xE1, 0xDF, 0xA3, 0x5B, 0xB6, 0x71, 0xE2],
   [0xD9, 0xAF, 0x43, 0x86, 0x11, 0x22, 0x44, 0x88, 0x0D, 0x1A, 0x34, 0x68, 0xD0, 0xBD, 0x67, 0xCE],
   [0x81, 0x1F, 0x3E, 0x7C, 0xF8, 0xED, 0xC7, 0x93, 0x3B, 0x76, 0xEC, 0xC5, 0x97, 0x33, 0x66, 0xCC],
   [0x85, 0x17, 0x2E, 0x5C, 0xB8, 0x6D, 0xDA, 0xA9, 0x4F, 0x9E, 0x21, 0x42, 0x84, 0x15, 0x2A, 0x54],
   [0xA8, 0x4D, 0x9A, 0x29, 0x52, 0xA4, 0x55, 0xAA, 0x49, 0x92, 0x39, 0x72, 0xE4, 0xD5, 0xB7, 0x73],
   [0xE6, 0xD1, 0xBF, 0x63, 0xC6, 0x91, 0x3F, 0x7E, 0xFC, 0xE5, 0xD7, 0xB3, 0x7B, 0xF6, 0xF1, 0xFF],
   [0xE3, 0xDB, 0xAB, 0x4B, 0x96, 0x31, 0x62, 0xC4, 0x95, 0x37, 0x6E, 0xDC, 0xA5, 0x57, 0xAE, 0x41],
   [0x82, 0x19, 0x32, 0x64, 0xC8, 0x8D, 0x07, 0x0E, 0x1C, 0x38, 0x70, 0xE0, 0xDD, 0xA7, 0x53, 0xA6],
   [0x51, 0xA2, 0x59, 0xB2, 0x79, 0xF2, 0xF9, 0xEF, 0xC3, 0x9B, 0x2B, 0x56, 0xAC, 0x45, 0x8A, 0x09],
   [0x12, 0x24, 0x48, 0x90, 0x3D, 0x7A, 0xF4, 0xF5, 0xF7, 0xF3, 0xFB, 0xEB, 0xCB, 0x8B, 0x0B, 0x16],
   [0x2C, 0x58, 0xB0, 0x7D, 0xFA, 0xE9, 0xCF, 0x83, 0x1B, 0x36, 0x6C, 0xD8, 0xAD, 0x47, 0x8E, 0x01]]

/-- `LOG[a]`, laid out as `expTable`; the entry at 0, which does not exist in the field, is never read (R110, R113). -/
def logTable : List (List Nat) :=
  [[0x00, 0x00, 0x01, 0x19, 0x02, 0x32, 0x1A, 0xC6, 0x03, 0xDF, 0x33, 0xEE, 0x1B, 0x68, 0xC7, 0x4B],
   [0x04, 0x64, 0xE0, 0x0E, 0x34, 0x8D, 0xEF, 0x81, 0x1C, 0xC1, 0x69, 0xF8, 0xC8, 0x08, 0x4C, 0x71],
   [0x05, 0x8A, 0x65, 0x2F, 0xE1, 0x24, 0x0F, 0x21, 0x35, 0x93, 0x8E, 0xDA, 0xF0, 0x12, 0x82, 0x45],
   [0x1D, 0xB5, 0xC2, 0x7D, 0x6A, 0x27, 0xF9, 0xB9, 0xC9, 0x9A, 0x09, 0x78, 0x4D, 0xE4, 0x72, 0xA6],
   [0x06, 0xBF, 0x8B, 0x62, 0x66, 0xDD, 0x30, 0xFD, 0xE2, 0x98, 0x25, 0xB3, 0x10, 0x91, 0x22, 0x88],
   [0x36, 0xD0, 0x94, 0xCE, 0x8F, 0x96, 0xDB, 0xBD, 0xF1, 0xD2, 0x13, 0x5C, 0x83, 0x38, 0x46, 0x40],
   [0x1E, 0x42, 0xB6, 0xA3, 0xC3, 0x48, 0x7E, 0x6E, 0x6B, 0x3A, 0x28, 0x54, 0xFA, 0x85, 0xBA, 0x3D],
   [0xCA, 0x5E, 0x9B, 0x9F, 0x0A, 0x15, 0x79, 0x2B, 0x4E, 0xD4, 0xE5, 0xAC, 0x73, 0xF3, 0xA7, 0x57],
   [0x07, 0x70, 0xC0, 0xF7, 0x8C, 0x80, 0x63, 0x0D, 0x67, 0x4A, 0xDE, 0xED, 0x31, 0xC5, 0xFE, 0x18],
   [0xE3, 0xA5, 0x99, 0x77, 0x26, 0xB8, 0xB4, 0x7C, 0x11, 0x44, 0x92, 0xD9, 0x23, 0x20, 0x89, 0x2E],
   [0x37, 0x3F, 0xD1, 0x5B, 0x95, 0xBC, 0xCF, 0xCD, 0x90, 0x87, 0x97, 0xB2, 0xDC, 0xFC, 0xBE, 0x61],
   [0xF2, 0x56, 0xD3, 0xAB, 0x14, 0x2A, 0x5D, 0x9E, 0x84, 0x3C, 0x39, 0x53, 0x47, 0x6D, 0x41, 0xA2],
   [0x1F, 0x2D, 0x43, 0xD8, 0xB7, 0x7B, 0xA4, 0x76, 0xC4, 0x17, 0x49, 0xEC, 0x7F, 0x0C, 0x6F, 0xF6],
   [0x6C, 0xA1, 0x3B, 0x52, 0x29, 0x9D, 0x55, 0xAA, 0xFB, 0x60, 0x86, 0xB1, 0xBB, 0xCC, 0x3E, 0x5A],
   [0xCB, 0x59, 0x5F, 0xB0, 0x9C, 0xA9, 0xA0, 0x51, 0x0B, 0xF5, 0x16, 0xEB, 0x7A, 0x75, 0x2C, 0xD7],
   [0x4F, 0xAE, 0xD5, 0xE9, 0xE6, 0xE7, 0xAD, 0xE8, 0x74, 0xD6, 0xF4, 0xEA, 0xA8, 0x50, 0x58, 0xAF]]

/-- The constants of the BCH codes (R117). -/
def bchG15 : Nat := 0b10100110111

/-- See `bchG15`. -/
def bchG15Mask : Nat := 0b101010000010010

/-- See `bchG15`. -/
def bchG18 : Nat := 0b1111100100101

/-! ## The RS block plan (44_encoder.md R201) -/

/-- One group of a plan row, `count × (total, data)`. -/
abbrev PlanGroup := Nat × Nat × Nat

/-- The rows of one version: the groups of levels L, M, Q and H, in the table's order. -/
abbrev PlanVersion := List PlanGroup × List PlanGroup × List PlanGroup × List PlanGroup

/-- Versions 1 to 10 of the plan table (R201). -/
def planVersions1To10 : List PlanVersion :=
  [([(1, 26, 19)], [(1, 26, 16)], [(1, 26, 13)], [(1, 26, 9)]),
   ([(1, 44, 34)], [(1, 44, 28)], [(1, 44, 22)], [(1, 44, 16)]),
   ([(1, 70, 55)], [(1, 70, 44)], [(2, 35, 17)], [(2, 35, 13)]),
   ([(1, 100, 80)], [(2, 50, 32)], [(2, 50, 24)], [(4, 25, 9)]),
   ([(1, 134, 108)], [(2, 67, 43)], [(2, 33, 15), (2, 34, 16)], [(2, 33, 11), (2, 34, 12)]),
   ([(2, 86, 68)], [(4, 43, 27)], [(4, 43, 19)], [(4, 43, 15)]),
   ([(2, 98, 78)], [(4, 49, 31)], [(2, 32, 14), (4, 33, 15)], [(4, 39, 13), (1, 40, 14)]),
   ([(2, 121, 97)], [(2, 60, 38), (2, 61, 39)], [(4, 40, 18), (2, 41, 19)], [(4, 40, 14), (2, 41, 15)]),
   ([(2, 146, 116)], [(3, 58, 36), (2, 59, 37)], [(4, 36, 16), (4, 37, 17)], [(4, 36, 12), (4, 37, 13)]),
   ([(2, 86, 68), (2, 87, 69)], [(4, 69, 43), (1, 70, 44)], [(6, 43, 19), (2, 44, 20)], [(6, 43, 15), (2, 44, 16)])]

/-- Versions 11 to 20 of the plan table (R201). -/
def planVersions11To20 : List PlanVersion :=
  [([(4, 101, 81)], [(1, 80, 50), (4, 81, 51)], [(4, 50, 22), (4, 51, 23)], [(3, 36, 12), (8, 37, 13)]),
   ([(2, 116, 92), (2, 117, 93)], [(6, 58, 36), (2, 59, 37)], [(4, 46, 20), (6, 47, 21)], [(7, 42, 14), (4, 43, 15)]),
   ([(4, 133, 107)], [(8, 59, 37), (1, 60, 38)], [(8, 44, 20), (4, 45, 21)], [(12, 33, 11), (4, 34, 12)]),
   ([(3, 145, 115), (1, 146, 116)], [(4, 64, 40), (5, 65, 41)], [(11, 36, 16), (5, 37, 17)], [(11, 36, 12), (5, 37, 13)]),
   ([(5, 109, 87), (1, 110, 88)], [(5, 65, 41), (5, 66, 42)], [(5, 54, 24), (7, 55, 25)], [(11, 36, 12), (7, 37, 13)]),
   ([(5, 122, 98), (1, 123, 99)], [(7, 73, 45), (3, 74, 46)], [(15, 43, 19), (2, 44, 20)], [(3, 45, 15), (13, 46, 16)]),
   ([(1, 135, 107), (5, 136, 108)], [(10, 74, 46), (1, 75, 47)], [(1, 50, 22), (15, 51, 23)], [(2, 42, 14), (17, 43, 15)]),
   ([(5, 150, 120), (1, 151, 121)], [(9, 69, 43), (4, 70, 44)], [(17, 50, 22), (1, 51, 23)], [(2, 42, 14), (19, 43, 15)]),
   ([(3, 141, 113), (4, 142, 114)], [(3, 70, 44), (11, 71, 45)], [(17, 47, 21), (4, 48, 22)], [(9, 39, 13), (16, 40, 14)]),
   ([(3, 135, 107), (5, 136, 108)], [(3, 67, 41), (13, 68, 42)], [(15, 54, 24), (5, 55, 25)], [(15, 43, 15), (10, 44, 16)])]

/-- Versions 21 to 30 of the plan table (R201). -/
def planVersions21To30 : List PlanVersion :=
  [([(4, 144, 116), (4, 145, 117)], [(17, 68, 42)], [(17, 50, 22), (6, 51, 23)], [(19, 46, 16), (6, 47, 17)]),
   ([(2, 139, 111), (7, 140, 112)], [(17, 74, 46)], [(7, 54, 24), (16, 55, 25)], [(34, 37, 13)]),
   ([(4, 151, 121), (5, 152, 122)], [(4, 75, 47), (14, 76, 48)], [(11, 54, 24), (14, 55, 25)], [(16, 45, 15), (14, 46, 16)]),
   ([(6, 147, 117), (4, 148, 118)], [(6, 73, 45), (14, 74, 46)], [(11, 54, 24), (16, 55, 25)], [(30, 46, 16), (2, 47, 17)]),
   ([(8, 132, 106), (4, 133, 107)], [(8, 75, 47), (13, 76, 48)], [(7, 54, 24), (22, 55, 25)], [(22, 45, 15), (13, 46, 16)]),
   ([(10, 142, 114), (2, 143, 115)], [(19, 74, 46), (4, 75, 47)], [(28, 50, 22), (6, 51, 23)], [(33, 46, 16), (4, 47, 17)]),
   ([(8, 152, 122), (4, 153, 123)], [(22, 73, 45), (3, 74, 46)], [(8, 53, 23), (26, 54, 24)], [(12, 45, 15), (28, 46, 16)]),
   ([(3, 147, 117), (10, 148, 118)], [(3, 73, 45), (23, 74, 46)], [(4, 54, 24), (31, 55, 25)], [(11, 45, 15), (31, 46, 16)]),
   ([(7, 146, 116), (7, 147, 117)], [(21, 73, 45), (7, 74, 46)], [(1, 53, 23), (37, 54, 24)], [(19, 45, 15), (26, 46, 16)]),
   ([(5, 145, 115), (10, 146, 116)], [(19, 75, 47), (10, 76, 48)], [(15, 54, 24), (25, 55, 25)], [(23, 45, 15), (25, 46, 16)])]

/-- Versions 31 to 40 of the plan table (R201). -/
def planVersions31To40 : List PlanVersion :=
  [([(13, 145, 115), (3, 146, 116)], [(2, 74, 46), (29, 75, 47)], [(42, 54, 24), (1, 55, 25)], [(23, 45, 15), (28, 46, 16)]),
   ([(17, 145, 115)], [(10, 74, 46), (23, 75, 47)], [(10, 54, 24), (35, 55, 25)], [(19, 45, 15), (35, 46, 16)]),
   ([(17, 145, 115), (1, 146, 116)], [(14, 74, 46), (21, 75, 47)], [(29, 54, 24), (19, 55, 25)], [(11, 45, 15), (46, 46, 16)]),
   ([(13, 145, 115), (6, 146, 116)], [(14, 74, 46), (23, 75, 47)], [(44, 54, 24), (7, 55, 25)], [(59, 46, 16), (1, 47, 17)]),
   ([(12, 151, 121), (7, 152, 122)], [(12, 75, 47), (26, 76, 48)], [(39, 54, 24), (14, 55, 25)], [(22, 45, 15), (41, 46, 16)]),
   ([(6, 151, 121), (14, 152, 122)], [(6, 75, 47), (34, 76, 48)], [(46, 54, 24), (10, 55, 25)], [(2, 45, 15), (64, 46, 16)]),
   ([(17, 152, 122), (4, 153, 123)], [(29, 74, 46), (14, 75, 47)], [(49, 54, 24), (10, 55, 25)], [(24, 45, 15), (46, 46, 16)]),
   ([(4, 152, 122), (18, 153, 123)], [(13, 74, 46), (32, 75, 47)], [(48, 54, 24), (14, 55, 25)], [(42, 45, 15), (32, 46, 16)]),
   ([(20, 147, 117), (4, 148, 118)], [(40, 75, 47), (7, 76, 48)], [(43, 54, 24), (22, 55, 25)], [(10, 45, 15), (67, 46, 16)]),
   ([(19, 148, 118), (6, 149, 119)], [(18, 75, 47), (31, 76, 48)], [(34, 54, 24), (34, 55, 25)], [(20, 45, 15), (61, 46, 16)])]

/-- The plan table, versions 1 to 40 (R201). -/
def planTable : List PlanVersion :=
  planVersions1To10 ++ planVersions11To20 ++ planVersions21To30 ++ planVersions31To40

/-! ## The alignment positions (45_matrix.md R238) -/

/-- Versions 1 to 20 of the alignment table (R238). -/
def alignVersions1To20 : List (List Nat) :=
  [[],
   [6, 18],
   [6, 22],
   [6, 26],
   [6, 30],
   [6, 34],
   [6, 22, 38],
   [6, 24, 42],
   [6, 26, 46],
   [6, 28, 50],
   [6, 30, 54],
   [6, 32, 58],
   [6, 34, 62],
   [6, 26, 46, 66],
   [6, 26, 48, 70],
   [6, 26, 50, 74],
   [6, 30, 54, 78],
   [6, 30, 56, 82],
   [6, 30, 58, 86],
   [6, 34, 62, 90]]

/-- Versions 21 to 40 of the alignment table (R238). -/
def alignVersions21To40 : List (List Nat) :=
  [[6, 28, 50, 72, 94],
   [6, 26, 50, 74, 98],
   [6, 30, 54, 78, 102],
   [6, 28, 54, 80, 106],
   [6, 32, 58, 84, 110],
   [6, 30, 58, 86, 114],
   [6, 34, 62, 90, 118],
   [6, 26, 50, 74, 98, 122],
   [6, 30, 54, 78, 102, 126],
   [6, 26, 52, 78, 104, 130],
   [6, 30, 56, 82, 108, 134],
   [6, 34, 60, 86, 112, 138],
   [6, 30, 58, 86, 114, 142],
   [6, 34, 62, 90, 118, 146],
   [6, 30, 54, 78, 102, 126, 150],
   [6, 24, 50, 76, 102, 128, 154],
   [6, 28, 54, 80, 106, 132, 158],
   [6, 32, 58, 84, 110, 136, 162],
   [6, 26, 54, 82, 110, 138, 166],
   [6, 30, 58, 86, 114, 142, 170]]

/-- `ALIGN_POS`, versions 1 to 40 (R238). -/
def alignTable : List (List Nat) := alignVersions1To20 ++ alignVersions21To40

/-- `ALIGN_POS[v]` (R238); no coordinate for a `v` that is no version. -/
def alignPos (v : Nat) : List Nat :=
  match v with
  | 0 => []
  | k + 1 => (alignTable[k]?).getD []

end Sys2Proof.Machine
end

