-- ==== Sys2Proof/Machine/Field.lean ====
section
/-! DEFINITION. The GF(256) field unit and the BCH encoders (41_galois_field.md). -/

namespace Sys2Proof.Machine

/-! ## Field functions -/

/-- `EXP[i]` (R110). -/
def expAt (i : Nat) : Byte := ((expTable[i / 16]?).bind (·[i % 16]?)).getD 0

/-- `LOG[a]` of a non-zero element (R110). -/
def logAt (a : Byte) : Nat := ((logTable[a.toNat / 16]?).bind (·[a.toNat % 16]?)).getD 0

/-- `gexp(n) = EXP[n mod 255]` for every integer (R111; the source's loop gives the same element). -/
def gexp (n : Int) : Byte := expAt (n % 255).toNat

/-- `glog(a)`: the logarithm of zero is an error (R113). -/
def glog (a : Byte) : Except ErrKind Nat := require (a ≠ 0) .invalidFieldOperand (.ok (logAt a))

/-- `a ⊗ b` (R114). -/
def gmul (a b : Byte) : Byte := if a = 0 ∨ b = 0 then 0 else gexp (logAt a + logAt b)

/-! ## BCH (R117) -/

/-- `bitlen(d)`, the number of binary digits (R117). -/
def bitlen (d : Nat) : Nat := if d = 0 then 0 else d.log2 + 1

/-- The remainder loop; each turn takes the leading digit off, so `bitlen d` turns are enough (R117). -/
def bchRemLoop : Nat → Nat → Nat → Nat
  | 0, d, _ => d
  | fuel + 1, d, g =>
    if bitlen d ≥ bitlen g then bchRemLoop fuel (d ^^^ (g <<< (bitlen d - bitlen g))) g else d

/-- `bchrem(d, G)` (R117). -/
def bchRem (d g : Nat) : Nat := bchRemLoop (bitlen d) d g

/-- `fmt(d)`, the 15-bit format codeword (R117). -/
def bchFormat (d : Nat) : Nat := ((d <<< 10) ||| bchRem (d <<< 10) bchG15) ^^^ bchG15Mask

/-- `ver(d)`, the 18-bit version codeword (R117). -/
def bchVersion (d : Nat) : Nat := (d <<< 12) ||| bchRem (d <<< 12) bchG18

/-! ## Commands -/

/-- GF_EXP (R112). -/
def execGfExp (imm : Half) (s : State) : Host.Outcome State Fault Refusal :=
  runCommand 0x10 (fun s => .ok (s.setResult ((gexp (sext16 imm)).setWidth 32))) s

/-- GF_LOG (R113). -/
def execGfLog (b : Byte) (s : State) : Host.Outcome State Fault Refusal :=
  runCommand 0x11 (fun s => (glog b).map fun n => s.setResult (zext32 n)) s

/-- GF_MUL (R115). -/
def execGfMul (a b : Byte) (s : State) : Host.Outcome State Fault Refusal :=
  runCommand 0x12 (fun s => .ok (s.setResult ((gmul a b).setWidth 32))) s

/-- GF_ADD (R116). -/
def execGfAdd (a b : Byte) (s : State) : Host.Outcome State Fault Refusal :=
  runCommand 0x13 (fun s => .ok (s.setResult ((a ^^^ b).setWidth 32))) s

/-- BCH_FMT (R118). -/
def execBchFmt (b : Byte) (s : State) : Host.Outcome State Fault Refusal :=
  runCommand 0x14 (fun s => .ok (s.setResult (zext32 (bchFormat b.toNat)))) s

/-- BCH_VER (R119). -/
def execBchVer (b : Byte) (s : State) : Host.Outcome State Fault Refusal :=
  runCommand 0x15 (fun s => .ok (s.setResult (zext32 (bchVersion b.toNat)))) s

end Sys2Proof.Machine
end

