-- ==== Sys2Proof/Machine/Polynomial.lean ====
section
/-! DEFINITION. The polynomial unit (42_polynomial.md). A polynomial is its coefficients, highest degree first
(00_scope.md R15). -/

namespace Sys2Proof.Machine

/-! ## Arithmetic -/

/-- `mkPoly(num, shift)`: the leading zeros stripped, then `shift` zeros appended (R130). -/
def mkPoly (num : List Byte) (shift : Nat) : List Byte :=
  num.dropWhile (· == 0) ++ List.replicate shift 0

/-- The coefficient-wise sum of two lists of one length. -/
def padd (a b : List Byte) : List Byte := List.zipWith (· ^^^ ·) a b

/-- The unstripped product of R135, of length `len(a) + len(b) - 1`: the coefficient at `k` is the sum of the
`a[i] ⊗ b[j]` with `i + j = k`. The first coefficient of `a` scales `b` at the top, and the others' product lies one
place lower. -/
def convolve : List Byte → List Byte → List Byte
  | [], b => List.replicate (b.length - 1) 0
  | x :: xs, b => padd (b.map (gmul x) ++ List.replicate xs.length 0) (0 :: convolve xs b)

/-- `pmul(a, b)` (R135). -/
def pmul (a b : List Byte) : List Byte :=
  if a.length = 0 ∨ b.length = 0 then [] else mkPoly (convolve a b) 0

/-- The dividend with a scaled divisor added to its leading coefficients: the `num` of R136. -/
def addLeading : List Byte → List Byte → List Byte
  | a, [] => a
  | [], _ => []
  | x :: xs, y :: ys => (x ^^^ y) :: addLeading xs ys

/-- The division loop of R136. Each turn shortens the dividend, so `len(a) + 1` turns are enough. -/
def pmodLoop : Nat → List Byte → List Byte → Except ErrKind (List Byte)
  | 0, a, _ => .ok a
  | fuel + 1, a, e =>
    if a.length < e.length then .ok a
    else do
      let x ← glog (a.headD 0)
      let y ← glog (e.headD 0)
      pmodLoop fuel (mkPoly (addLeading a (e.map fun c => gmul c (gexp ((x : Int) - y)))) 0) e

/-- `pmod(a, e)` (R136). -/
def pmod (a e : List Byte) : Except ErrKind (List Byte) :=
  require (1 ≤ e.length) .invalidFieldOperand (pmodLoop (a.length + 1) a e)

/-- `gen(n)`: the product of the `n` factors `x - α^i` (R137). -/
def gen (n : Nat) : List Byte := (List.range n).foldl (fun g (i : Nat) => pmul g [1, gexp i]) [1]

/-! ## Commands -/

/-- P_CLR (R132). -/
def execPClr (pd : PReg) (s : State) : Host.Outcome State Fault Refusal :=
  runCommand 0x20 (fun s => .ok (s.setPoly pd [])) s

/-- P_PUSH (R133). -/
def execPPush (pd : PReg) (imm : Half) (s : State) : Host.Outcome State Fault Refusal :=
  runCommand 0x21 (fun s =>
    require ((s.getPoly pd).length + 1 ≤ Config.pMax) .resourceLimit <|
    .ok (s.setPoly pd (mkPoly (s.getPoly pd ++ [coefficient imm]) 0))) s

/-- P_SHIFT (R134). -/
def execPShift (pd pa : PReg) (imm : Half) (s : State) : Host.Outcome State Fault Refusal :=
  runCommand 0x22 (fun s =>
    require ((mkPoly (s.getPoly pa) imm.toNat).length ≤ Config.pMax) .resourceLimit <|
    .ok (s.setPoly pd (mkPoly (s.getPoly pa) imm.toNat))) s

/-- P_MUL (R135). The check is on the unstripped length. -/
def execPMul (pd pa pb : PReg) (s : State) : Host.Outcome State Fault Refusal :=
  runCommand 0x23 (fun s =>
    require ((s.getPoly pa).length = 0 ∨ (s.getPoly pb).length = 0 ∨
      (s.getPoly pa).length + (s.getPoly pb).length - 1 ≤ Config.pMax) .resourceLimit <|
    .ok (s.setPoly pd (pmul (s.getPoly pa) (s.getPoly pb)))) s

/-- P_MOD (R136). -/
def execPMod (pd pa pb : PReg) (s : State) : Host.Outcome State Fault Refusal :=
  runCommand 0x24 (fun s => (pmod (s.getPoly pa) (s.getPoly pb)).map fun r => s.setPoly pd r) s

/-- P_GEN (R137). -/
def execPGen (pd : PReg) (imm : Half) (s : State) : Host.Outcome State Fault Refusal :=
  runCommand 0x25 (fun s =>
    require (imm.toNat + 1 ≤ Config.pMax) .resourceLimit <|
    .ok (s.setPoly pd (gen imm.toNat))) s

/-- P_LEN (R138). -/
def execPLen (pa : PReg) (s : State) : Host.Outcome State Fault Refusal :=
  runCommand 0x26 (fun s => .ok (s.setResult (zext32 (s.getPoly pa).length))) s

/-- P_GET (R139). -/
def execPGet (pa : PReg) (imm : Half) (s : State) : Host.Outcome State Fault Refusal :=
  runCommand 0x27 (fun s =>
    require (imm.toNat < (s.getPoly pa).length) .boundsViolation <|
    .ok (s.setResult ((((s.getPoly pa)[imm.toNat]?).getD 0).setWidth 32))) s

end Sys2Proof.Machine
end

