-- ==== Sys2Proof/Machine/Encoder.lean ====
section
/-! DEFINITION. The encoder: configuration, segments, bitstream, RS blocks, interleaver and their readback
(44_encoder.md). -/

namespace Sys2Proof.Machine

/-! ## The RS block plan -/

/-- One block of the plan: its data-codeword count and its total-codeword count (R182). -/
abbrev Block := Nat × Nat

/-- The row of R201 for a version and an ECL code (M=0, L=1, H=2, Q=3); no group for a `v` that is no version. -/
def planRow (v : Nat) (l : BitVec 2) : List PlanGroup :=
  match v with
  | 0 => []
  | k + 1 =>
    match planTable[k]? with
    | none => []
    | some (rowL, rowM, rowQ, rowH) =>
      match l.toNat with
      | 0 => rowM
      | 1 => rowL
      | 2 => rowH
      | _ => rowQ

/-- `plan(v, l)`, the blocks in order (R182). -/
def plan (v : Nat) (l : BitVec 2) : List Block :=
  (planRow v l).flatMap fun (count, total, data) => List.replicate count (data, total)

/-- `totalDataCount` (R183). -/
def totalDataCount (v : Nat) (l : BitVec 2) : Nat := ((plan v l).map fun b => b.1).sum

/-- `totalCodewords` (R183). -/
def totalCodewords (v : Nat) (l : BitVec 2) : Nat := ((plan v l).map fun b => b.2).sum

/-! ## Bitstream assembly -/

/-- `lenWidth(v)` of a byte-mode segment (R185). -/
def lenWidth (v : Nat) : Nat := if v ≤ 9 then 8 else 16

/-- `segBits(s, v)` (R187). -/
def segBits (v : Nat) (seg : List Byte) : Nat := 4 + lenWidth v + 8 * seg.length

/-- The bits `writeSeg(s, v)` appends: mode `0100`, the length, the bytes (R184, R187). -/
def segmentBits (v : Nat) (seg : List Byte) : List Bool :=
  msbBits 0b0100 4 ++ msbBits seg.length (lenWidth v) ++ seg.flatMap fun b => msbBits b.toNat 8

/-- The terminator, written when room remains for its 4 bits (R193). -/
def withTerminator (totalBits : Nat) (bb : List Bool) : List Bool :=
  if bb.length + 4 ≤ totalBits then bb ++ msbBits 0 4 else bb

/-- Zero bits up to the byte boundary (R195). -/
def byteAligned (bb : List Bool) : List Bool := bb ++ List.replicate ((8 - bb.length % 8) % 8) false

/-- `k` pad bytes, alternately `0xEC` and `0x11`, starting with `0xEC` (R195). -/
def padBytes : Nat → List Byte
  | 0 => []
  | 1 => [0xEC]
  | k + 2 => 0xEC :: 0x11 :: padBytes k

/-- Pad bytes until the capacity is reached: the loop of R191 writes one while `len(BB) < totalBits`. -/
def padded (totalBits : Nat) (bb : List Bool) : List Bool :=
  bb ++ (padBytes ((totalBits - bb.length + 7) / 8)).flatMap fun b => msbBits b.toNat 8

/-- `assemble(v, l, segs)` (R191), with the overflow check on the segment bits alone (R192). -/
def assemble (v : Nat) (l : BitVec 2) (segs : List (List Byte)) : Except ErrKind (List Bool) :=
  require ((segs.map (segBits v)).sum ≤ 8 * totalDataCount v l) .capacityOverflow <|
  .ok (padded (8 * totalDataCount v l)
    (byteAligned (withTerminator (8 * totalDataCount v l) (segs.flatMap (segmentBits v)))))

/-! ## RS blocks and interleaving -/

/-- `rsBlock(d, e)`: the low-order `e` coefficients of the remainder, zero-filled on the left (R197). -/
def rsBlock (d : List Byte) (e : Nat) : Except ErrKind (List Byte) := do
  let rem ← pmod (mkPoly d e) (gen e)
  .ok ((List.range e).map fun i => if e ≤ i + rem.length then (rem[i + rem.length - e]?).getD 0 else 0)

/-- `DC` and `EC` of the blocks of a plan, the first block's data starting at byte `offset` of the buffer (R198). -/
def codeBlocks (bb : List Bool) : Nat → List Block → Except ErrKind (List (List Byte) × List (List Byte))
  | _, [] => .ok ([], [])
  | offset, (dc, tc) :: rest => do
    let d := (List.range dc).map fun i => byteAt bb (offset + i)
    let e ← rsBlock d (tc - dc)
    let (ds, es) ← codeBlocks bb (offset + dc) rest
    .ok (d :: ds, e :: es)

/-- The codewords of a list of blocks column by column, skipping the blocks that are exhausted (R200). -/
def columns (blocks : List (List Byte)) : List Byte :=
  (List.range ((blocks.map List.length).foldl max 0)).flatMap fun i => blocks.filterMap (·[i]?)

/-- `interleave(DC, EC)` (R200). -/
def interleave (dc ec : List (List Byte)) : List Byte := columns dc ++ columns ec

/-! ## Commands -/

/-- The state a successful SYM_CFG leaves: a new symbol with nothing in it; `P[0..3]`, RESULT and the error fields stay
(R180, 70_reset_and_hazards.md R350). -/
def State.configure (version : BitVec 6) (ecl : BitVec 2) (s : State) : State :=
  { s with
    version := version, ecl := ecl, cfgValid := true
    pay := [], seg := [], bb := [], dc := [], ec := [], rsValid := false, cw := []
    mat := clearMat (4 * version.toNat + 17), matValid := false, sel := 0
    pen := Vector.replicate 8 ⟨0, 0, 0, 0⟩ }

/-- SYM_CFG (R180). -/
def execSymCfg (a b : Byte) (s : State) : Host.Outcome State Fault Refusal :=
  runCommand 0x40 (fun s =>
    require ((Config.versionMin ≤ a.toNat ∧ a.toNat ≤ Config.versionMax) ∧ b.toNat ≤ 3) .configurationError <|
    .ok (s.configure (versionOf a) (eclCode b))) s

/-- SEG_BEGIN (R189). -/
def execSegBegin (s : State) : Host.Outcome State Fault Refusal :=
  runCommand 0x41 (fun s =>
    requireSymbol s <|
    require (s.seg.length < Config.segMax) .capacityOverflow <|
    .ok s.openSegment) s

/-- SEG_BYTE (R190). -/
def execSegByte (b : Byte) (s : State) : Host.Outcome State Fault Refusal :=
  runCommand 0x42 (fun s =>
    requireSymbol s <|
    require (1 ≤ s.seg.length) .sequenceError <|
    require (s.pay.length < Config.payBytes) .capacityOverflow <|
    .ok (s.appendByte b)) s

/-- The data bitstream of the configured symbol's segments (R191, R196). -/
def State.dataStream (s : State) : Except ErrKind (List Bool) :=
  assemble s.version.toNat s.ecl (segments s.pay s.seg)

/-- ENC_DATA (R196). -/
def execEncData (s : State) : Host.Outcome State Fault Refusal :=
  runCommand 0x43 (fun s => requireSymbol s <| s.dataStream.map fun bb => s.writeBb bb) s

/-- ENC_RS (R198). -/
def execEncRs (s : State) : Host.Outcome State Fault Refusal :=
  runCommand 0x44 (fun s =>
    requireSymbol s <|
    require (s.bb.length = 8 * totalDataCount s.version.toNat s.ecl) .sequenceError <|
    (codeBlocks s.bb 0 (plan s.version.toNat s.ecl)).map fun blocks => s.setBlocks blocks.1 blocks.2) s

/-- ENC_ILV (R199). -/
def execEncIlv (s : State) : Host.Outcome State Fault Refusal :=
  runCommand 0x45 (fun s =>
    requireSymbol s <|
    require (s.rsValid = true) .sequenceError <|
    .ok (s.setCw (interleave s.dc s.ec))) s

/-- CW_LEN (R202). -/
def execCwLen (s : State) : Host.Outcome State Fault Refusal :=
  runCommand 0x46 (fun s => .ok (s.setResult (zext32 s.cw.length))) s

/-- CW_GET (R203). -/
def execCwGet (imm : Half) (s : State) : Host.Outcome State Fault Refusal :=
  runCommand 0x47 (fun s =>
    require (imm.toNat < s.cw.length) .boundsViolation <|
    .ok (s.setResult (((s.cw[imm.toNat]?).getD 0).setWidth 32))) s

/-- PLAN_CNT (R204). -/
def execPlanCnt (s : State) : Host.Outcome State Fault Refusal :=
  runCommand 0x48 (fun s =>
    requireSymbol s <|
    .ok (s.setResult (zext32 (plan s.version.toNat s.ecl).length))) s

/-- PLAN_GET (R205). -/
def execPlanGet (imm : Half) (s : State) : Host.Outcome State Fault Refusal :=
  runCommand 0x49 (fun s =>
    requireSymbol s <|
    match (plan s.version.toNat s.ecl)[imm.toNat]? with
    | none => .error .boundsViolation
    | some (dc, tc) => .ok (s.setResult (zext32 ((tc <<< 8) ||| dc)))) s

end Sys2Proof.Machine
end

