-- ==== Sys2Proof/Machine/Matrix.lean ====
section
/-! DEFINITION. The matrix builder (45_matrix.md). Each of the construction steps 1 to 5 is the list of its cell writes,
in the order the spec makes them; `place` performs them with `setu`. -/

namespace Sys2Proof.Machine

/-- One cell write of a construction step. -/
structure CellWrite where
  row : Nat
  col : Nat
  cell : Cell
  deriving DecidableEq, Repr

/-- The writes of a step, each by `setu` (R231). -/
def place (m : Mat) (writes : List CellWrite) : Mat := writes.foldl (fun m w => setu m w.row w.col w.cell) m

/-- `lo..lo+count-1` as integers. -/
def intRange (lo : Int) (count : Nat) : List Int := (List.range count).map fun k => lo + k

/-! ## Finder patterns -/

/-- The dark cells of the 7×7 pattern and its separator, relative to its corner (R233). -/
def finderDark (r c : Int) : Bool :=
  (decide (0 ≤ r ∧ r ≤ 6) && (c == 0 || c == 6)) || (decide (0 ≤ c ∧ c ≤ 6) && (r == 0 || r == 6)) ||
    decide (2 ≤ r ∧ r ≤ 4 ∧ 2 ≤ c ∧ c ≤ 4)

/-- `finder(R, C)`: the pattern with its separator, clipped at the matrix edge (R233). -/
def finderWrites (n R C : Nat) : List CellWrite :=
  (intRange (-1) 9).flatMap fun r =>
    (intRange (-1) 9).filterMap fun c =>
      if 0 ≤ (R : Int) + r ∧ (R : Int) + r < n ∧ 0 ≤ (C : Int) + c ∧ (C : Int) + c < n then
        some ⟨((R : Int) + r).toNat, ((C : Int) + c).toNat, shade (finderDark r c)⟩
      else none

/-- Step 1: the top-left, bottom-left and top-right finders (R234). -/
def allFinderWrites (n : Nat) : List CellWrite :=
  finderWrites n 0 0 ++ finderWrites n (n - 7) 0 ++ finderWrites n 0 (n - 7)

/-! ## Alignment patterns -/

/-- The dark cells of the 5×5 pattern, relative to its centre (R236). -/
def alignDark (r c : Int) : Bool := r == -2 || r == 2 || c == -2 || c == 2 || (r == 0 && c == 0)

/-- `align(R, C)` (R236). -/
def alignWrites (R C : Nat) : List CellWrite :=
  (intRange (-2) 5).flatMap fun r =>
    (intRange (-2) 5).map fun c => ⟨((R : Int) + r).toNat, ((C : Int) + c).toNat, shade (alignDark r c)⟩

/-- One pair of coordinates: the pattern is placed if its centre is unset (R237). -/
def alignAt (m : Mat) (centre : Nat × Nat) : Mat :=
  if getCell m centre.1 centre.2 = .unset then place m (alignWrites centre.1 centre.2) else m

/-- Step 2: every pair of the version's coordinates, in the order of R237. -/
def alignAll (v : Nat) (m : Mat) : Mat :=
  ((alignPos v).flatMap fun r => (alignPos v).map fun c => (r, c)).foldl alignAt m

/-! ## Timing patterns -/

/-- Step 3: column 6, then row 6, dark where the coordinate is even (R239). -/
def timingWrites (n : Nat) : List CellWrite :=
  ((List.range n).map fun r => ⟨r, 6, shade (r % 2 == 0)⟩) ++
    (List.range n).map fun c => ⟨6, c, shade (c % 2 == 0)⟩

/-! ## Format and version information -/

/-- The cell of format bit `i` in the vertical copy, column 8 (R242). -/
def vpos (n i : Nat) : Nat × Nat :=
  if i ≤ 5 then (i, 8)
  else if i = 6 then (7, 8)
  else if i = 7 then (8, 8)
  else if i = 8 then (n - 7, 8)
  else (n - 15 + i, 8)

/-- The cell of format bit `i` in the horizontal copy, row 8 (R242). -/
def hpos (n i : Nat) : Nat × Nat :=
  if i ≤ 5 then (8, n - 1 - i)
  else if i = 6 then (8, n - 7)
  else if i = 7 then (8, n - 8)
  else if i = 8 then (8, 7)
  else (8, 14 - i)

/-- The fixed dark module of a trial matrix (00_scope.md R9). -/
def trialDarkCell : Cell :=
  match Config.trialDarkModule with
  | .dark => .dark
  | .light => .light

/-- Step 4: both copies of the format bits, all light in a trial, and the fixed dark module (R241). -/
def formatWrites (n : Nat) (ecl : BitVec 2) (m : Nat) (trial : Bool) : List CellWrite :=
  let bit (i : Nat) : Cell := shade (!trial && (bchFormat ((ecl.toNat <<< 3) ||| m)).testBit i)
  ((List.range 15).map fun i => ⟨(vpos n i).1, (vpos n i).2, bit i⟩) ++
    ((List.range 15).map fun i => ⟨(hpos n i).1, (hpos n i).2, bit i⟩) ++
    [⟨n - 8, 8, if trial then trialDarkCell else .dark⟩]

/-- Whether a trial matrix carries light version cells (00_scope.md R9). -/
def trialVersionForced : Bool :=
  match Config.trialVersionBits with
  | .real => false
  | .forcedLight => true

/-- Step 5: both blocks of the version bits, at versions 7 to 40 (R243, R244). -/
def versionWrites (n v : Nat) (trial : Bool) : List CellWrite :=
  let bit (i : Nat) : Cell := shade (!(trial && trialVersionForced) && (bchVersion v).testBit i)
  if 7 ≤ v then
    ((List.range 18).map fun i => ⟨i / 3, n - 11 + i % 3, bit i⟩) ++
      (List.range 18).map fun i => ⟨n - 11 + i % 3, i / 3, bit i⟩
  else []

/-! ## Data placement and masks -/

/-- `mask(m, r, c)`: whether the data bit is inverted (R246). -/
def maskBit (m r c : Nat) : Bool :=
  match m with
  | 0 => (r + c) % 2 == 0
  | 1 => r % 2 == 0
  | 2 => c % 3 == 0
  | 3 => (r + c) % 3 == 0
  | 4 => (r / 2 + c / 3) % 2 == 0
  | 5 => (r * c) % 2 + (r * c) % 3 == 0
  | 6 => ((r * c) % 2 + (r * c) % 3) % 2 == 0
  | 7 => ((r * c) % 3 + (r + c) % 2) % 2 == 0
  | _ => false

/-- The right columns of the strips from `col` leftward, column 6 skipped (R245). -/
def stripColumns : Nat → Nat → List Nat
  | 0, _ => []
  | fuel + 1, col =>
    if col = 0 then []
    else
      let c := if col = 6 then 5 else col
      c :: stripColumns fuel (c - 2)

/-- The cells of one strip, right cell before left, walked upward or downward (R245). -/
def stripCells (n col : Nat) (upward : Bool) : List (Nat × Nat) :=
  (if upward then (List.range n).reverse else List.range n).flatMap fun r => [(r, col), (r, col - 1)]

/-- The strips in turn, the direction reversing at each edge (R245). -/
def walkStrips (n : Nat) : List Nat → Bool → List (Nat × Nat)
  | [], _ => []
  | col :: rest, upward => stripCells n col upward ++ walkStrips n rest (!upward)

/-- The order in which data placement visits the cells: from the bottom-right corner, upward first (R245). -/
def zigzag (n : Nat) : List (Nat × Nat) := walkStrips n (stripColumns n (n - 1)) true

/-- One visited cell: an unset cell takes the next bit, 0 past the stream's end, with the mask (R245). -/
def placeBit (mask : Nat) (st : Mat × List Bool) (pos : Nat × Nat) : Mat × List Bool :=
  if getCell st.1 pos.1 pos.2 = .unset then
    (setCell st.1 pos.1 pos.2 (shade (st.2.headD false ^^ maskBit mask pos.1 pos.2)), st.2.tail)
  else st

/-- The codeword stream, bit 7 of each byte first (R245, 20_memory.md R67). -/
def codewordBits (cw : List Byte) : List Bool := cw.flatMap fun b => msbBits b.toNat 8

/-- Step 6: `placeData(cw, m)` (R245). -/
def placeData (n : Nat) (cw : List Byte) (mask : Nat) (m : Mat) : Mat :=
  ((zigzag n).foldl (placeBit mask) (m, codewordBits cw)).1

/-- `buildMatrix(m, t)`: the six steps in order on a clear matrix (R230, R247). -/
def buildMatrix (v : Nat) (ecl : BitVec 2) (cw : List Byte) (mask : Nat) (trial : Bool) : Mat :=
  let n := 4 * v + 17
  let m := place (clearMat n) (allFinderWrites n)
  let m := alignAll v m
  let m := place m (timingWrites n)
  let m := place m (formatWrites n ecl mask trial)
  let m := place m (versionWrites n v trial)
  placeData n cw mask m

/-! ## Commands -/

/-- MX_CLR (R232). -/
def execMxClr (s : State) : Host.Outcome State Fault Refusal :=
  runCommand 0x50 (fun s => requireSymbol s <| .ok (s.writeMat (clearMat s.n))) s

/-- MX_FINDER (R234). -/
def execMxFinder (s : State) : Host.Outcome State Fault Refusal :=
  runCommand 0x51 (fun s => requireSymbol s <| .ok (s.writeMat (place s.mat (allFinderWrites s.n)))) s

/-- MX_ALIGN (R237). -/
def execMxAlign (s : State) : Host.Outcome State Fault Refusal :=
  runCommand 0x52 (fun s => requireSymbol s <| .ok (s.writeMat (alignAll s.version.toNat s.mat))) s

/-- MX_TIMING (R240). -/
def execMxTiming (s : State) : Host.Outcome State Fault Refusal :=
  runCommand 0x53 (fun s => requireSymbol s <| .ok (s.writeMat (place s.mat (timingWrites s.n)))) s

/-- MX_FORMAT (R241). -/
def execMxFormat (a b : Byte) (s : State) : Host.Outcome State Fault Refusal :=
  runCommand 0x54 (fun s =>
    requireSymbol s <|
    require (isMaskId a = true) .invalidFieldOperand <|
    .ok (s.writeMat (place s.mat (formatWrites s.n s.ecl a.toNat (isTrial b))))) s

/-- MX_VERSION (R244). -/
def execMxVersion (b : Byte) (s : State) : Host.Outcome State Fault Refusal :=
  runCommand 0x55 (fun s =>
    requireSymbol s <|
    .ok (s.writeMat (place s.mat (versionWrites s.n s.version.toNat (isTrial b))))) s

/-- MX_DATA (R245). -/
def execMxData (b : Byte) (s : State) : Host.Outcome State Fault Refusal :=
  runCommand 0x56 (fun s =>
    requireSymbol s <|
    require (isMaskId b = true) .invalidFieldOperand <|
    .ok (s.writeMat (placeData s.n s.cw b.toNat s.mat))) s

/-- MX_BUILD (R247). -/
def execMxBuild (a b : Byte) (s : State) : Host.Outcome State Fault Refusal :=
  runCommand 0x57 (fun s =>
    requireSymbol s <|
    require (isMaskId a = true) .invalidFieldOperand <|
    .ok (s.writeMat (buildMatrix s.version.toNat s.ecl s.cw a.toNat (isTrial b)))) s

/-- The value MX_RD gives for a cell (R248). -/
def cellCode : Cell → Word
  | .unset => 0
  | .light => 2
  | .dark => 3

/-- MX_RD (R248). -/
def execMxRd (a b : Byte) (s : State) : Host.Outcome State Fault Refusal :=
  runCommand 0x58 (fun s =>
    requireSymbol s <|
    require (a.toNat < s.n ∧ b.toNat < s.n) .boundsViolation <|
    .ok (s.setResult (cellCode (getCell s.mat a.toNat b.toNat)))) s

end Sys2Proof.Machine
end

