-- ==== Sys2Proof/Machine/Mask.lean ====
section
/-! DEFINITION. The penalty scorer and the mask selector (46_mask.md). -/

namespace Sys2Proof.Machine

/-! ## The penalty function -/

/-- The sum of `f` over `0..n-1`. -/
def sumRange (n : Nat) (f : Nat → Nat) : Nat := ((List.range n).map f).sum

/-- `g(r, c)`: the colour of a cell, true for dark (R271). -/
def colour (m : Mat) (r c : Nat) : Bool := getCell m r c == .dark

/-- The coordinates at distance at most 1 from `r` that lie in `0..n-1`. -/
def near (n r : Nat) : List Nat :=
  (if r = 0 then [] else [r - 1]) ++ [r] ++ (if r + 1 < n then [r + 1] else [])

/-- The number of neighbours of a cell, among its up to 8, that share its colour (R271). -/
def sameNeighbours (m : Mat) (n r c : Nat) : Nat :=
  (((near n r).flatMap fun r' => (near n c).map fun c' => (r', c')).filter fun p =>
    p != (r, c) && colour m p.1 p.2 == colour m r c).length

/-- Rule 1 (R271). -/
def penaltyR1 (m : Mat) (n : Nat) : Nat :=
  sumRange n fun r => sumRange n fun c =>
    if sameNeighbours m n r c > 5 then 3 + (sameNeighbours m n r c - 5) else 0

/-- Rule 2: the 2×2 blocks of one colour (R271). -/
def penaltyR2 (m : Mat) (n : Nat) : Nat :=
  sumRange (n - 1) fun r => sumRange (n - 1) fun c =>
    if colour m r c = colour m (r + 1) c ∧ colour m r c = colour m r (c + 1) ∧
      colour m r c = colour m (r + 1) (c + 1) then 3 else 0

/-- The 7-cell pattern of rule 3 (R271). -/
def finderRun : List Bool := [true, false, true, true, true, false, true]

/-- Rule 3: the 7-cell runs along rows and along columns (R271). -/
def penaltyR3 (m : Mat) (n : Nat) : Nat :=
  (sumRange n fun r => sumRange (n - 6) fun c =>
    if ((List.range 7).map fun k => colour m r (c + k)) = finderRun then 40 else 0) +
  sumRange n fun c => sumRange (n - 6) fun r =>
    if ((List.range 7).map fun k => colour m (r + k) c) = finderRun then 40 else 0

/-- The number of dark cells (R271). -/
def darkCount (m : Mat) (n : Nat) : Nat := sumRange n fun r => sumRange n fun c => (colour m r c).toNat

/-- `penalty(g)` of an `n × n` matrix (R271). -/
def penalty (m : Mat) (n : Nat) : Penalty := ⟨penaltyR1 m n, penaltyR2 m n, penaltyR3 m n, darkCount m n⟩

/-- `key(p)`: `T` times the exact score, with `T = n*n` (R273). -/
def penaltyKey (n : Nat) (p : Penalty) : Nat :=
  n * n * (p.r1 + p.r2 + p.r3) + 2 * (50 * ((n * n : Nat) : Int) - 100 * (p.dk : Int)).natAbs

/-! ## Selection -/

/-- The penalty of each mask's trial matrix (R275, R276). -/
def trialPenalties (v : Nat) (ecl : BitVec 2) (cw : List Byte) : Vector Penalty 8 :=
  Vector.ofFn fun m => penalty (buildMatrix v ecl cw m.val true) (4 * v + 17)

/-- The mask with the least key; the first wins ties (R274). -/
def bestMask (n : Nat) (pen : Vector Penalty 8) : Fin 8 :=
  (List.finRange 8).foldl (fun best m => if penaltyKey n pen[m] < penaltyKey n pen[best] then m else best) 0

/-- The mask MS_SELECT chooses for the configured symbol (R276). -/
def State.chosenMask (s : State) : Fin 8 := bestMask s.n (trialPenalties s.version.toNat s.ecl s.cw)

/-- The body of MS_SELECT (R276). -/
def State.selectMask (s : State) : State :=
  { s with
    pen := trialPenalties s.version.toNat s.ecl s.cw
    mat := buildMatrix s.version.toNat s.ecl s.cw s.chosenMask.val false
    sel := BitVec.ofFin s.chosenMask
    result := zext32 s.chosenMask.val
    matValid := false }

/-! ## Commands -/

/-- MS_SCORE (R272). -/
def execMsScore (b : Byte) (s : State) : Host.Outcome State Fault Refusal :=
  runCommand 0x60 (fun s =>
    requireSymbol s <|
    require (isMaskId b = true) .invalidFieldOperand <|
    require (isComplete s.mat = true) .sequenceError <|
    .ok (s.setPen b.toNat (penalty s.mat s.n))) s

/-- MS_SELECT (R276). -/
def execMsSelect (s : State) : Host.Outcome State Fault Refusal :=
  runCommand 0x61 (fun s => requireSymbol s <| .ok s.selectMask) s

/-- The part of a penalty record PEN_GET reads: 0 = R1, 1 = R2, 2 = R3, 3 = DK (R277). -/
def penaltyPart (p : Penalty) (k : Nat) : Nat :=
  match k with
  | 0 => p.r1
  | 1 => p.r2
  | 2 => p.r3
  | _ => p.dk

/-- PEN_GET (R277). -/
def execPenGet (a b : Byte) (s : State) : Host.Outcome State Fault Refusal :=
  runCommand 0x62 (fun s =>
    require (isMaskId a = true) .invalidFieldOperand <|
    .ok (s.setResult (zext32 (penaltyPart (s.getPen a.toNat) b.toNat)))) s

end Sys2Proof.Machine
end

