-- ==== Sys2Proof/Machine/Facade.lean ====
section
/-! DEFINITION. The symbol façade: the build, the lazy build and the read contract (47_facade.md). -/

namespace Sys2Proof.Machine

/-- `build()`: the pipeline from the segments to the cached final matrix (R290). -/
def State.buildSymbol (s : State) : Except ErrKind State := do
  let bb ← s.dataStream
  let blocks ← codeBlocks bb 0 (plan s.version.toNat s.ecl)
  .ok (((({ s with bb := bb }).setBlocks blocks.1 blocks.2).setCw (interleave blocks.1 blocks.2)).selectMask.markMatValid)

/-- The build RD_DARK and RD_MASK perform only when the cache is not valid (R292, R294). -/
def State.lazyBuild (s : State) : Except ErrKind State := if s.matValid then .ok s else s.buildSymbol

/-! ## Commands -/

/-- BUILD (R290). -/
def execBuild (s : State) : Host.Outcome State Fault Refusal :=
  runCommand 0x70 (fun s => requireSymbol s <| s.buildSymbol) s

/-- RD_COUNT (R291). -/
def execRdCount (s : State) : Host.Outcome State Fault Refusal :=
  runCommand 0x71 (fun s => requireSymbol s <| .ok (s.setResult (zext32 s.n))) s

/-- RD_DARK (R292). -/
def execRdDark (a b : Byte) (s : State) : Host.Outcome State Fault Refusal :=
  runCommand 0x72 (fun s =>
    requireSymbol s <|
    require (a.toNat < s.n ∧ b.toNat < s.n) .boundsViolation <|
    s.lazyBuild.map fun t => t.setResult (flagBit (colour t.mat a.toNat b.toNat))) s

/-- RD_MASK (R294). -/
def execRdMask (s : State) : Host.Outcome State Fault Refusal :=
  runCommand 0x73 (fun s => requireSymbol s <| s.lazyBuild.map fun t => t.setResult (t.sel.setWidth 32)) s

/-- RD_CFG (R295). -/
def execRdCfg (s : State) : Host.Outcome State Fault Refusal :=
  runCommand 0x74 (fun s =>
    requireSymbol s <|
    .ok (s.setResult (s.version.setWidth 32 ||| s.ecl.setWidth 32 <<< 8))) s

end Sys2Proof.Machine
end

