-- ==== Sys2Proof/Machine/Dispatch.lean ====
section
/-! DEFINITION. The meaning of each command, one arm per constructor. -/

namespace Sys2Proof.Machine

/-- One command on a state: `exec(S, w)` of 30_encoding.md R100 for a legal word, the discard test included. -/
def exec (i : Instr) (s : State) : Host.Outcome State Fault Refusal :=
  match i with
  | .nop => Sys2Proof.Machine.execNop s
  | .errClr => Sys2Proof.Machine.execErrClr s
  | .softReset => Sys2Proof.Machine.execSoftReset s
  | .ident => Sys2Proof.Machine.execIdent s
  | .gfExp imm => Sys2Proof.Machine.execGfExp imm s
  | .gfLog b => Sys2Proof.Machine.execGfLog b s
  | .gfMul a b => Sys2Proof.Machine.execGfMul a b s
  | .gfAdd a b => Sys2Proof.Machine.execGfAdd a b s
  | .bchFmt b => Sys2Proof.Machine.execBchFmt b s
  | .bchVer b => Sys2Proof.Machine.execBchVer b s
  | .pClr pd => Sys2Proof.Machine.execPClr pd s
  | .pPush pd imm => Sys2Proof.Machine.execPPush pd imm s
  | .pShift pd pa imm => Sys2Proof.Machine.execPShift pd pa imm s
  | .pMul pd pa pb => Sys2Proof.Machine.execPMul pd pa pb s
  | .pMod pd pa pb => Sys2Proof.Machine.execPMod pd pa pb s
  | .pGen pd imm => Sys2Proof.Machine.execPGen pd imm s
  | .pLen pa => Sys2Proof.Machine.execPLen pa s
  | .pGet pa imm => Sys2Proof.Machine.execPGet pa imm s
  | .bbClr => Sys2Proof.Machine.execBbClr s
  | .bbPut size val => Sys2Proof.Machine.execBbPut size val s
  | .bbPutBit b => Sys2Proof.Machine.execBbPutBit b s
  | .bbGet imm => Sys2Proof.Machine.execBbGet imm s
  | .bbGetByte imm => Sys2Proof.Machine.execBbGetByte imm s
  | .bbLen => Sys2Proof.Machine.execBbLen s
  | .symCfg a b => Sys2Proof.Machine.execSymCfg a b s
  | .segBegin => Sys2Proof.Machine.execSegBegin s
  | .segByte b => Sys2Proof.Machine.execSegByte b s
  | .encData => Sys2Proof.Machine.execEncData s
  | .encRs => Sys2Proof.Machine.execEncRs s
  | .encIlv => Sys2Proof.Machine.execEncIlv s
  | .cwLen => Sys2Proof.Machine.execCwLen s
  | .cwGet imm => Sys2Proof.Machine.execCwGet imm s
  | .planCnt => Sys2Proof.Machine.execPlanCnt s
  | .planGet imm => Sys2Proof.Machine.execPlanGet imm s
  | .mxClr => Sys2Proof.Machine.execMxClr s
  | .mxFinder => Sys2Proof.Machine.execMxFinder s
  | .mxAlign => Sys2Proof.Machine.execMxAlign s
  | .mxTiming => Sys2Proof.Machine.execMxTiming s
  | .mxFormat a b => Sys2Proof.Machine.execMxFormat a b s
  | .mxVersion b => Sys2Proof.Machine.execMxVersion b s
  | .mxData b => Sys2Proof.Machine.execMxData b s
  | .mxBuild a b => Sys2Proof.Machine.execMxBuild a b s
  | .mxRd a b => Sys2Proof.Machine.execMxRd a b s
  | .msScore b => Sys2Proof.Machine.execMsScore b s
  | .msSelect => Sys2Proof.Machine.execMsSelect s
  | .penGet a b => Sys2Proof.Machine.execPenGet a b s
  | .build => Sys2Proof.Machine.execBuild s
  | .rdCount => Sys2Proof.Machine.execRdCount s
  | .rdDark a b => Sys2Proof.Machine.execRdDark a b s
  | .rdMask => Sys2Proof.Machine.execRdMask s
  | .rdCfg => Sys2Proof.Machine.execRdCfg s

end Sys2Proof.Machine
end

