-- ==== Sys2Proof/Machine/Bus.lean ====
section
/-! DEFINITION. One bus event: an access of the host to the register window, or the reset input (20_memory.md R64 to
R68, 70_reset_and_hazards.md R340, R342). -/

namespace Sys2Proof.Machine

/-- One command word written to CMD: decoded and executed, or an IllegalCommand (30_encoding.md R90, R100). An illegal
word passes the same discard test as a legal one (60_exceptions.md R313). -/
def runWord (w : Word) (s : State) : Host.Outcome State Fault Refusal :=
  match decode w with
  | .ok i => exec i s
  | .error _ => runCommand (opcodeField w) (fun _ => .error .illegalCommand) s

/-- The offset of CMD (20_memory.md R64). -/
def cmdOffset : Byte := 0x00

/-- One event, taken off the queue already. A read returns the register's word and changes nothing in the core; a write
of CMD is a command; a write of any other offset is ignored (R68). -/
def busEvent (e : BusEvent) (s : State) : Host.Outcome State Fault Refusal :=
  match e with
  | .read bytes offset =>
    if accessAdmitted bytes offset then .next { s with readData := s.readWindow offset }
    else .refused .malformedAccess
  | .write bytes offset data =>
    if accessAdmitted bytes offset then (if offset = cmdOffset then runWord data s else .next s)
    else .refused .malformedAccess
  | .resetInput => .next s.resetCore
  | .resetDuring _ => .next s.resetCore

/-- The next event is the 32-bit write of this command word to CMD. -/
def State.pushCommand (w : Word) (s : State) : State :=
  { s with pending := .write 4 cmdOffset w :: s.pending }

end Sys2Proof.Machine
end

