-- ==== Sys2Proof/Machine/Step.lean ====
section
/-! DEFINITION. One step of the machine: the next bus event runs to completion (20_memory.md R66). -/

namespace Sys2Proof.Machine

/-- One step. With no event pending the core is idle and holds its state (60_exceptions.md R324). -/
def step (s : State) : Host.Outcome State Fault Refusal :=
  match s.pending with
  | [] => .next s
  | e :: rest => busEvent e { s with pending := rest }

/-- `s` with the command word of a table row as the host's next write to CMD, where `step` takes its next command. -/
def State.withFetchWord (s : State) (nbits w : Nat) : State := s.pushCommand (BitVec.ofNat 32 (w % 2 ^ nbits))

end Sys2Proof.Machine
end

