-- ==== Sys2Proof/Safety.lean ====
section
/-! DEFINITION. What the statements speak in: when a command runs, the invariants of 10_state.md R49, and the arithmetic
of the spec written a second time, independently of the machine's tables and loops. -/

namespace Sys2Proof

/-! ## The commands by their words and their checks -/

/-- The word of `i` has opcode byte `opc`, and its bits 23:0 are the number `operands` (R81). -/
abbrev Instr.wordIs (i : Instr) (opc operands : Nat) : Prop := (encode i).toNat = opc * 2 ^ 24 + operands

/-- The commands that require a configured symbol (60_exceptions.md R311, row SequenceError). -/
def Instr.needsSymbol : Instr → Bool
  | .segBegin | .segByte _ | .encData | .encRs | .encIlv | .planCnt | .planGet _ => true
  | .mxClr | .mxFinder | .mxAlign | .mxTiming | .mxFormat _ _ | .mxVersion _ | .mxData _ | .mxBuild _ _
  | .mxRd _ _ => true
  | .msScore _ | .msSelect | .build | .rdCount | .rdDark _ _ | .rdMask | .rdCfg => true
  | .nop | .errClr | .softReset | .ident | .gfExp _ | .gfLog _ | .gfMul _ _ | .gfAdd _ _ | .bchFmt _ | .bchVer _
  | .pClr _ | .pPush _ _ | .pShift _ _ _ | .pMul _ _ _ | .pMod _ _ _ | .pGen _ _ | .pLen _ | .pGet _ _
  | .bbClr | .bbPut _ _ | .bbPutBit _ | .bbGet _ | .bbGetByte _ | .bbLen | .symCfg _ _ | .cwLen | .cwGet _
  | .penGet _ _ => false

/-- The commands that raise no error but IllegalCommand (60_exceptions.md R311, closing list). -/
def Instr.neverFails : Instr → Bool
  | .nop | .errClr | .softReset | .ident | .gfExp _ | .gfMul _ _ | .gfAdd _ _ | .bchFmt _ | .bchVer _ | .pClr _
  | .pLen _ | .bbClr | .bbLen | .cwLen => true
  | .gfLog _ | .pPush _ _ | .pShift _ _ _ | .pMul _ _ _ | .pMod _ _ _ | .pGen _ _ | .pGet _ _ => false
  | .bbPut _ _ | .bbPutBit _ | .bbGet _ | .bbGetByte _ | .symCfg _ _ | .segBegin | .segByte _ | .encData | .encRs
  | .encIlv | .cwGet _ | .planCnt | .planGet _ => false
  | .mxClr | .mxFinder | .mxAlign | .mxTiming | .mxFormat _ _ | .mxVersion _ | .mxData _ | .mxBuild _ _ | .mxRd _ _
  | .msScore _ | .msSelect | .penGet _ _ | .build | .rdCount | .rdDark _ _ | .rdMask | .rdCfg => false

end Sys2Proof

namespace Sys2Proof.Machine

/-! ## When a command runs -/

/-- No error is recorded, so a command is not discarded (60_exceptions.md R313). -/
abbrev State.ready (s : State) : Prop := s.err = 0

/-- A command that requires a configured symbol passes its first check (60_exceptions.md R314). -/
abbrev State.configured (s : State) : Prop := s.err = 0 ∧ s.cfgValid = true

/-- A command that requires a configured symbol fails its first check (60_exceptions.md R314). -/
abbrev State.unconfigured (s : State) : Prop := s.err = 0 ∧ s.cfgValid = false

/-- The configured version is one a SYM_CFG can leave (10_state.md R34). -/
abbrev State.hasVersion (s : State) : Prop := 1 ≤ s.version.toNat ∧ s.version.toNat ≤ 40

/-- The segments with their headers, `L` bits in all, fit the symbol's data capacity (44_encoder.md R192, R194). -/
abbrev State.fits (s : State) : Prop :=
  ((segments s.pay s.seg).map fun seg => 4 + (if s.version.toNat ≤ 9 then 8 else 16) + 8 * seg.length).sum
    ≤ 8 * totalDataCount s.version.toNat s.ecl

/-- The matrix is `N × N` (10_state.md R42). -/
abbrev State.matShaped (s : State) : Prop := s.mat.length = s.n ∧ ∀ row ∈ s.mat, row.length = s.n

/-- The state a failing command leaves while no error is recorded (60_exceptions.md R312, R316). -/
abbrev State.failed (s : State) (code : BitVec 4) (i : Instr) : State := { s with err := code, errOpc := i.opcode }

/-! ## Invariants -/

/-- Every internal memory is within its size and of its shape (10_state.md R36 to R42, R49 (a), (e)). The core has no
byte-addressed memory (00_scope.md R12): its memories are lists, and equal memories are equal lists. -/
abbrev Memory.wf (s : State) : Prop :=
  s.pay.length ≤ 4096 ∧ s.seg.length ≤ 2048 ∧ s.seg.sum = s.pay.length ∧ s.bb.length ≤ 32768 ∧
  (s.dc.map List.length).sum + (s.ec.map List.length).sum ≤ 3706 ∧ s.cw.length ≤ 3706 ∧
  (∀ r : PReg, (s.getPoly r).length ≤ 512) ∧ s.matShaped

/-- The error fields and the configuration (10_state.md R24, R25, R34, R39, R49 (b), (d)). R49 (b) also says that `BB` is
empty while no symbol is configured; BB_PUT and BB_PUTBIT append without a symbol (R163, R164, 70_reset_and_hazards.md
R343; assumption 6), and the clause is left out. -/
abbrev State.statusWf (s : State) : Prop :=
  s.err.toNat ≤ 7 ∧ (s.err = 0 → s.errOpc = 0) ∧ (s.cfgValid = true → s.hasVersion) ∧
  (s.cfgValid = false → s.version = 0 ∧ s.ecl = 0 ∧ s.pay = [] ∧ s.seg = [] ∧ s.cw = [] ∧ s.matValid = false ∧
    s.rsValid = false) ∧
  (s.rsValid = true → s.bb.length = 8 * totalDataCount s.version.toNat s.ecl)

/-- The cached matrix is complete, and it and the chosen mask are what BUILD computes from the current configuration and
segments (10_state.md R43, R49 (c); 47_facade.md R297). -/
def State.cacheCoherent (s : State) : Prop :=
  s.matValid = true → s.cfgValid = true ∧ (∀ row ∈ s.mat, ∀ cell ∈ row, cell ≠ .unset) ∧
    ∃ t, exec .build { s with err := 0, errOpc := 0 } = .next t ∧ t.err = 0 ∧ t.mat = s.mat ∧ t.sel = s.sel

/-- The bounds of the penalty records for the current module count (10_state.md R45). -/
abbrev State.penaltiesBounded (s : State) : Prop :=
  ∀ m : Fin 8, s.pen[m].r1 ≤ 6 * (s.n * s.n) ∧ s.pen[m].r2 ≤ 3 * ((s.n - 1) * (s.n - 1)) ∧
    s.pen[m].r3 ≤ 40 * (2 * (s.n * (s.n - 6))) ∧ s.pen[m].dk ≤ s.n * s.n

/-! ## The command word (30_encoding.md) -/

/-- The operand bits of format AB (R84). -/
abbrev twoBytes (a b : Byte) : Nat := a.toNat * 2 ^ 8 + b.toNat

/-- The operand bits of format P (R86). -/
abbrev polyFields (pd pa pb : PReg) (imm : Nat) : Nat := pd.val * 2 ^ 20 + pa.val * 2 ^ 18 + pb.val * 2 ^ 16 + imm

/-- The unassigned opcodes (R90 (a)). -/
def unassigned (opc : Nat) : Bool :=
  [(0x04, 0x0F), (0x16, 0x1F), (0x28, 0x2F), (0x36, 0x3F), (0x4A, 0x4F), (0x59, 0x5F), (0x63, 0x6F),
    (0x75, 0xFF)].any fun (lo, hi) => decide (lo ≤ opc ∧ opc ≤ hi)

/-- The bits a legal word of an assigned opcode must have 0 (R82 to R87, R89, R90 (b)). -/
def mustBeZero (opc : Nat) : Word :=
  if opc ∈ [0x11, 0x14, 0x15, 0x32, 0x42, 0x55, 0x56, 0x60] then 0x00FFFF00
  else if opc ∈ [0x12, 0x13, 0x40, 0x54, 0x57, 0x58, 0x62, 0x72] then 0x00FF0000
  else if opc ∈ [0x10, 0x33, 0x34, 0x47, 0x49] then 0x00FF0000
  else if opc = 0x31 then 0x00E00000
  else if opc = 0x20 then 0x00CFFFFF
  else if opc = 0x21 ∨ opc = 0x25 then 0x00CF0000
  else if opc = 0x22 then 0x00C30000
  else if opc = 0x23 ∨ opc = 0x24 then 0x00C0FFFF
  else if opc = 0x26 then 0x00F3FFFF
  else if opc = 0x27 then 0x00F30000
  else 0x00FFFFFF

/-- An operand of the word is outside its encoding range (R90 (c)). -/
def outOfRange (w : Nat) : Bool :=
  match w / 2 ^ 24 with
  | 0x31 => decide (16 < w / 2 ^ 16 % 2 ^ 5)
  | 0x32 | 0x54 | 0x55 | 0x57 => decide (1 < w % 2 ^ 8)
  | 0x14 => decide (0x1F < w % 2 ^ 8)
  | 0x15 => decide (0x3F < w % 2 ^ 8)
  | 0x21 => decide (0xFF < w % 2 ^ 16)
  | 0x62 => decide (3 < w % 2 ^ 8)
  | _ => false

/-! ## GF(256) and GF(2) arithmetic from the generator polynomials -/

/-- Multiplication by `α`: a shift, reduced by `x^8 + x^4 + x^3 + x^2 + 1` (41_galois_field.md R110). -/
def timesAlpha (b : Byte) : Byte := if b.msb then (b <<< 1) ^^^ 0x1D else b <<< 1

/-- `α^n`, by repeated multiplication (R110). -/
def alphaPow : Nat → Byte
  | 0 => 1
  | n + 1 => timesAlpha (alphaPow n)

/-- The product of two field elements as polynomials in `α`: the sum of the `a * α^i` over the set bits `i` of `b`. -/
def polynomialProduct (a b : Byte) : Byte :=
  (List.range 8).foldl (fun acc i => if b.getLsbD i then acc ^^^ (timesAlpha^[i] a) else acc) 0

/-- The product of two polynomials over GF(2) written as numbers, `width` bits of the second taken. -/
def carrylessProduct (width a b : Nat) : Nat :=
  (List.range width).foldl (fun acc i => if b.testBit i then acc ^^^ (a <<< i) else acc) 0

/-- The coefficient at `k` of the unstripped product of two coefficient lists (42_polynomial.md R135). -/
def productCoefficient (a b : List Byte) (k : Nat) : Byte :=
  (List.range (k + 1)).foldl (fun acc i => acc ^^^ polynomialProduct ((a[i]?).getD 0) ((b[k - i]?).getD 0)) 0

/-- The generator polynomial: `(x - α^n)` times the one before is its shift plus `α^n` times itself (42_polynomial.md
R137). -/
def rsGenerator : Nat → List Byte
  | 0 => [1]
  | n + 1 => List.zipWith (· ^^^ ·) (rsGenerator n ++ [0]) (0 :: (rsGenerator n).map (polynomialProduct (alphaPow n)))

/-! ## Bits and codewords (43_bitbuffer.md, 44_encoder.md) -/

/-- The low `size` bits of `v`, most significant first (R161). -/
def msbFirst (v size : Nat) : List Bool := List.ofFn fun i : Fin size => v.testBit (size - 1 - i.val)

/-- The bits of one segment: the mode indicator, the length, the bytes (R184, R185, R187). -/
def segmentStream (v : Nat) (seg : List Byte) : List Bool :=
  msbFirst 0b0100 4 ++ msbFirst seg.length (if v ≤ 9 then 8 else 16) ++ seg.flatMap fun b => msbFirst b.toNat 8

/-- `bb` is the data bitstream of `segs` for a capacity of `total` bits: the segments, the terminator where 4 bits of room
remain, zeros to the byte boundary, then the pad bytes `0xEC`, `0x11` in turn (R191 to R195). -/
def isDataStream (v total : Nat) (segs : List (List Byte)) (bb : List Bool) : Prop :=
  ∃ stream used, stream = segs.flatMap (segmentStream v) ∧
    used = stream.length + (if stream.length + 4 ≤ total then 4 else 0) ∧
    bb.length = total ∧ bb.take stream.length = stream ∧
    (∀ i, stream.length ≤ i → i < 8 * ((used + 7) / 8) → bb[i]? = some false) ∧
    ∀ k, (used + 7) / 8 ≤ k → k < total / 8 →
      byteAt bb k = if (k - (used + 7) / 8) % 2 = 0 then 0xEC else 0x11

/-- Where element `i` of block `b` stands when the blocks are read column by column (R200): after the elements of lower
index of every block, and those of index `i` of the blocks before it. -/
def columnPosition (blocks : List (List Byte)) (b i : Nat) : Nat :=
  (blocks.map fun d => min d.length i).sum + ((blocks.take b).filter fun d => decide (i < d.length)).length

/-! ## The block plan by its other columns (44_encoder.md R201) -/

/-- The columns `EC/block` and `blocks` of R201, the levels of a version in the table's order L, M, Q, H. -/
def planColumns : List (List (Nat × Nat)) :=
  [[(7, 1), (10, 1), (13, 1), (17, 1)], [(10, 1), (16, 1), (22, 1), (28, 1)],
   [(15, 1), (26, 1), (18, 2), (22, 2)], [(20, 1), (18, 2), (26, 2), (16, 4)],
   [(26, 1), (24, 2), (18, 4), (22, 4)], [(18, 2), (16, 4), (24, 4), (28, 4)],
   [(20, 2), (18, 4), (18, 6), (26, 5)], [(24, 2), (22, 4), (22, 6), (26, 6)],
   [(30, 2), (22, 5), (20, 8), (24, 8)], [(18, 4), (26, 5), (24, 8), (28, 8)],
   [(20, 4), (30, 5), (28, 8), (24, 11)], [(24, 4), (22, 8), (26, 10), (28, 11)],
   [(26, 4), (22, 9), (24, 12), (22, 16)], [(30, 4), (24, 9), (20, 16), (24, 16)],
   [(22, 6), (24, 10), (30, 12), (24, 18)], [(24, 6), (28, 10), (24, 17), (30, 16)],
   [(28, 6), (28, 11), (28, 16), (28, 19)], [(30, 6), (26, 13), (28, 18), (28, 21)],
   [(28, 7), (26, 14), (26, 21), (26, 25)], [(28, 8), (26, 16), (30, 20), (28, 25)],
   [(28, 8), (26, 17), (28, 23), (30, 25)], [(28, 9), (28, 17), (30, 23), (24, 34)],
   [(30, 9), (28, 18), (30, 25), (30, 30)], [(30, 10), (28, 20), (30, 27), (30, 32)],
   [(26, 12), (28, 21), (30, 29), (30, 35)], [(28, 12), (28, 23), (28, 34), (30, 37)],
   [(30, 12), (28, 25), (30, 34), (30, 40)], [(30, 13), (28, 26), (30, 35), (30, 42)],
   [(30, 14), (28, 28), (30, 38), (30, 45)], [(30, 15), (28, 29), (30, 40), (30, 48)],
   [(30, 16), (28, 31), (30, 43), (30, 51)], [(30, 17), (28, 33), (30, 45), (30, 54)],
   [(30, 18), (28, 35), (30, 48), (30, 57)], [(30, 19), (28, 37), (30, 51), (30, 60)],
   [(30, 19), (28, 38), (30, 53), (30, 63)], [(30, 20), (28, 40), (30, 56), (30, 66)],
   [(30, 21), (28, 43), (30, 59), (30, 70)], [(30, 22), (28, 45), (30, 62), (30, 74)],
   [(30, 24), (28, 47), (30, 65), (30, 77)], [(30, 25), (28, 49), (30, 68), (30, 81)]]

/-- The place of an ECL code in the order L, M, Q, H: the codes are M = 0, L = 1, H = 2, Q = 3 (44_encoder.md R181). -/
def levelPlace (l : BitVec 2) : Nat := ([1, 0, 3, 2][l.toNat]?).getD 0

/-- The modules left for data: all but the three finders with their separators, the timing patterns, the 31 format cells,
the alignment patterns (each pair of coordinates but three, less the cells that lie on a timing pattern), and from version
7 on the 36 version cells (95_test_vectors.md section 1). -/
def dataCells (v : Nat) : Nat :=
  let n := 4 * v + 17
  let k := v / 7 + 2
  n * n - 3 * 64 - 2 * (n - 16) - 31 - (if v = 1 then 0 else 25 * (k * k - 3) - 2 * 5 * (k - 2)) - if 7 ≤ v then 36 else 0

/-- `total` codewords split evenly over `blocks` blocks of `ec` EC codewords each, the shorter blocks first. -/
def evenPlan (total ec blocks : Nat) : List (Nat × Nat) :=
  List.replicate (blocks - total % blocks) (total / blocks - ec, total / blocks) ++
    List.replicate (total % blocks) (total / blocks + 1 - ec, total / blocks + 1)

/-- The plan of a version and level is the even split of the codewords its data modules hold, with the row's block count
and EC count (R201). -/
abbrev planMeetsColumns (v : Nat) (l : BitVec 2) : Prop :=
  ∃ rows ec blocks, planColumns[v - 1]? = some rows ∧ rows[levelPlace l]? = some (ec, blocks) ∧
    plan v l = evenPlan (dataCells v / 8) ec blocks

/-- The derived checks of R201: the same total at every level, the codewords the data modules hold; one EC count per row;
data counts of a row that differ by at most 1; and below version 10 a capacity the 8-bit length field covers (R206). -/
abbrev planMeetsChecks (v : Nat) (l : BitVec 2) : Prop :=
  (∀ l' : BitVec 2, totalCodewords v l' = totalCodewords v l) ∧ totalCodewords v l = dataCells v / 8 ∧
  (∀ b ∈ plan v l, 0 < b.1 ∧ b.1 < b.2) ∧
  (∀ b ∈ plan v l, ∀ b' ∈ plan v l, b.2 - b.1 = b'.2 - b'.1 ∧ b.1 ≤ b'.1 + 1) ∧
  (v ≤ 9 → 8 * totalDataCount v l < 12 + 8 * 256)

/-! ## Matrix cells (45_matrix.md) -/

/-- `m'` is `m` with every unset cell filled by `f`, which answers `unset` for a cell it leaves (R231). -/
abbrev fillsUnset (n : Nat) (m m' : Mat) (f : Nat → Nat → Cell) : Prop :=
  m'.length = n ∧ (∀ row ∈ m', row.length = n) ∧
    ∀ r c, r < n → c < n → getCell m' r c = if getCell m r c = .unset then f r c else getCell m r c

/-- The distance of two cells in king's moves. -/
def ringOf (r c r' c' : Nat) : Nat := max (max r r' - min r r') (max c c' - min c c')

/-- The cell of the finder patterns and their separators: rings 0, 1 and 3 about the centre dark, 2 and 4 light (R233,
R234). -/
def finderCell (n r c : Nat) : Cell :=
  match [(3, 3), (n - 4, 3), (3, n - 4)].find? fun (p : Nat × Nat) => decide (ringOf r c p.1 p.2 ≤ 4) with
  | some (r', c') => shade (ringOf r c r' c' != 2 && ringOf r c r' c' != 4)
  | none => .unset

/-- The facts R238 marks as derived: no coordinate at version 1; else `v/7 + 2` of them, the first 6 and the last `N - 7`;
and the pairs outside the finder patterns are all but three, the table's last column. Read off its table besides: they rise,
are even, and are equally spaced from the second on. -/
abbrev alignMeetsFacts (v : Nat) : Prop :=
  (alignPos v).length = (if v = 1 then 0 else v / 7 + 2) ∧ (alignPos v).Pairwise (· < ·) ∧
  (∀ p ∈ alignPos v, p % 2 = 0) ∧
  (2 ≤ v → (alignPos v).head? = some 6 ∧ (alignPos v).getLast? = some (4 * v + 17 - 7)) ∧
  (∀ i < (alignPos v).length, 1 ≤ i → i + 2 < (alignPos v).length →
    ((alignPos v)[i]?).getD 0 + ((alignPos v)[i + 2]?).getD 0 = 2 * ((alignPos v)[i + 1]?).getD 0) ∧
  (((alignPos v).flatMap fun r => (alignPos v).map fun c => (r, c)).filter fun (p : Nat × Nat) =>
      decide (finderCell (4 * v + 17) p.1 p.2 = .unset)).length =
    if v = 1 then 0 else (v / 7 + 2) * (v / 7 + 2) - 3

/-- The cell of the alignment patterns about the centres that were unset: rings 0 and 2 dark, 1 light (R236, R237). -/
def alignCell (v : Nat) (m : Mat) (r c : Nat) : Cell :=
  match ((alignPos v).flatMap fun r' => (alignPos v).map fun c' => (r', c')).find? fun (p : Nat × Nat) =>
      decide (getCell m p.1 p.2 = .unset ∧ ringOf r c p.1 p.2 ≤ 2) with
  | some (r', c') => shade (ringOf r c r' c' != 1)
  | none => .unset

/-- The cell of the timing patterns (R239). -/
def timingCell (r c : Nat) : Cell :=
  if c = 6 then shade (r % 2 == 0) else if r = 6 then shade (c % 2 == 0) else .unset

/-- The format bit a cell carries: the table of R242 read from the cell to the bit. -/
def formatBitOf (n r c : Nat) : Option Nat :=
  if c = 8 then
    if r ≤ 5 then some r
    else if r = 7 then some 6
    else if r = 8 then some 7
    else if r + 7 = n then some 8
    else if n < r + 7 then some (r + 15 - n)
    else none
  else if r = 8 then
    if c ≤ 5 then some (14 - c)
    else if c = 7 then some 8
    else if c + 8 = n then some 7
    else if c + 7 = n then some 6
    else if n < c + 7 then some (n - 1 - c)
    else none
  else none

/-- The cell of the format information `word`, and the fixed dark module (R241, R242). -/
def formatCell (n word r c : Nat) : Cell :=
  if r + 8 = n ∧ c = 8 then .dark
  else match formatBitOf n r c with
    | some i => shade (word.testBit i)
    | none => .unset

/-- The cell of the version information `word`: the 6 × 3 block left of the top-right finder and its mirror image (R243). -/
def versionCell (n word r c : Nat) : Cell :=
  if r < 6 ∧ n ≤ c + 11 ∧ c + 9 ≤ n then shade (word.testBit (3 * r + (c + 11 - n)))
  else if c < 6 ∧ n ≤ r + 11 ∧ r + 9 ≤ n then shade (word.testBit (3 * c + (r + 11 - n)))
  else .unset

/-- When mask `m` inverts the bit at `(r, c)` (R246): masks 5 and 6 by the residue of `r*c` modulo 6. -/
def inverts (m r c : Nat) : Prop :=
  match m with
  | 0 => (r + c) % 2 = 0
  | 1 => r % 2 = 0
  | 2 => c % 3 = 0
  | 3 => (r + c) % 3 = 0
  | 4 => (r / 2 + c / 3) % 2 = 0
  | 5 => r * c % 6 = 0
  | 6 => r * c % 6 < 3
  | _ => (r * c % 3 + (r + c) % 2) % 2 = 0

/-- The turn at which data placement visits a cell outside column 6: the strips of two columns from the right edge, each
`2 * n` cells, walked upward and downward in turn, the right cell of a row first (R245). -/
def visitTurn (n r c : Nat) : Nat :=
  let fromRight := if 6 < c then n - 1 - c else n - 2 - c
  fromRight / 2 * (2 * n) + (if fromRight / 2 % 2 = 0 then n - 1 - r else r) * 2 + fromRight % 2

/-- The number of unset cells data placement visits before `(r, c)`: the number of the bit the cell takes (R245). -/
def bitsBefore (n : Nat) (m : Mat) (r c : Nat) : Nat :=
  ((Finset.range n ×ˢ Finset.range n).filter fun p =>
    p.2 ≠ 6 ∧ visitTurn n p.1 p.2 < visitTurn n r c ∧ getCell m p.1 p.2 = .unset).card

/-- Bit `k` of the codeword stream, bit 7 of each byte first; 0 past its end (R245, 20_memory.md R67 (b)). -/
def streamBit (cw : List Byte) (k : Nat) : Bool := ((cw[k / 8]?).getD 0).getLsbD (7 - k % 8)

/-- The cell data placement leaves where `m` had an unset one (R245). -/
def DataCell (n : Nat) (m : Mat) (cw : List Byte) (mask r c : Nat) (cell : Cell) : Prop :=
  if c = 6 then cell = .unset
  else cell ≠ .unset ∧ (cell = .dark ↔ ¬ (streamBit cw (bitsBefore n m r c) = true ↔ inverts mask r c))

/-! ## Penalties (46_mask.md) -/

/-- The neighbours of `(r, c)` that share its colour (R271, rule 1). -/
def neighboursAlike (m : Mat) (n r c : Nat) : Nat :=
  ((Finset.range n ×ˢ Finset.range n).filter fun p =>
    p ≠ (r, c) ∧ p.1 ≤ r + 1 ∧ r ≤ p.1 + 1 ∧ p.2 ≤ c + 1 ∧ c ≤ p.2 + 1 ∧
      (getCell m p.1 p.2 = .dark ↔ getCell m r c = .dark)).card

/-- The cells of `dark, light, dark, dark, dark, light, dark` (R271, rule 3). -/
def finderLike (k : Nat) : Bool := k != 1 && k != 5

/-- The penalty record of an `n × n` matrix, by counting (R271). -/
def countedPenalty (m : Mat) (n : Nat) : Penalty where
  r1 := ∑ r ∈ Finset.range n, ∑ c ∈ Finset.range n,
    if 5 < neighboursAlike m n r c then neighboursAlike m n r c - 2 else 0
  r2 := 3 * ((Finset.range n ×ˢ Finset.range n).filter fun p => p.1 + 1 < n ∧ p.2 + 1 < n ∧
    (getCell m p.1 p.2 = .dark ↔ getCell m (p.1 + 1) p.2 = .dark) ∧
    (getCell m p.1 p.2 = .dark ↔ getCell m p.1 (p.2 + 1) = .dark) ∧
    (getCell m p.1 p.2 = .dark ↔ getCell m (p.1 + 1) (p.2 + 1) = .dark)).card
  r3 := 40 * (((Finset.range n ×ˢ Finset.range n).filter fun p => p.2 + 6 < n ∧
      ∀ k < 7, (getCell m p.1 (p.2 + k) = .dark ↔ finderLike k = true)).card +
    ((Finset.range n ×ˢ Finset.range n).filter fun p => p.1 + 6 < n ∧
      ∀ k < 7, (getCell m (p.1 + k) p.2 = .dark ↔ finderLike k = true)).card)
  dk := ((Finset.range n ×ˢ Finset.range n).filter fun p => getCell m p.1 p.2 = .dark).card

/-- The exact score of a penalty record (R273). -/
def score (n : Nat) (p : Penalty) : ℚ :=
  p.r1 + p.r2 + p.r3 + 2 * |50 - 100 * (p.dk : ℚ) / ((n * n : Nat) : ℚ)|

end Sys2Proof.Machine
end

