-- ==== Sys2Proof/Certificates/Slice0/Obligations.lean ====
section
/-! DEFINITION. The statements for the provers. `s.err = 0` says that no error is recorded, `s.configured` that a symbol
is configured besides, `s.unconfigured` that none is; `s.failed code i` is the state a failing `i` leaves. A next state written as an update of `s`
gives the whole frame. -/

section

open Sys2Proof Sys2Proof.Machine

/-! ## Encoding (30_encoding.md) -/

/-- Decoding the word of a well-formed command gives the command back (R81 to R89, R101). -/
def Obligations.DecodeEncodeRoundTrip : Prop := ∀ i : Instr, i.wellFormed = true → decode (encode i) = .ok i

/-- A word that decodes is the word of the command it decodes to, which is well-formed: no bit is dropped (R89, R101). -/
def Obligations.EncodeDecodeRoundTrip : Prop :=
  ∀ (w : Word) (i : Instr), decode w = .ok i → i.wellFormed = true ∧ encode i = w

/-- The example words of R93 and R94. -/
def Obligations.DecodeExampleWords : Prop :=
  decode 0x43000000 = .ok .encData ∧ decode 0x42000041 = .ok (.segByte 0x41) ∧
  decode 0x12000280 = .ok (.gfMul 0x02 0x80) ∧ decode 0x1000FFFF = .ok (.gfExp (BitVec.ofInt 16 (-1))) ∧
  decode 0x23210000 = .ok (.pMul 2 0 1) ∧ decode 0x31040004 = .ok (.bbPut 4 0b0100)

/-- Which words are illegal, and for which reason: an unassigned opcode first, then a bit that must be 0, then an operand
outside its encoding range (R90 (a) to (c)); an illegal word raises IllegalCommand, code 5, and changes nothing but
STATUS. -/
def Obligations.IllegalWordReasons : Prop :=
  ∀ w : Word,
    (decode w = .error .unassignedOpcode ↔ unassigned (w.toNat / 2 ^ 24) = true) ∧
    (decode w = .error .reservedFieldNotZero ↔
      unassigned (w.toNat / 2 ^ 24) = false ∧ w &&& mustBeZero (w.toNat / 2 ^ 24) ≠ 0) ∧
    (decode w = .error .operandOutOfRange ↔
      unassigned (w.toNat / 2 ^ 24) = false ∧ w &&& mustBeZero (w.toNat / 2 ^ 24) = 0 ∧ outOfRange w.toNat = true) ∧
    ∀ (reason : IllegalReason) (s : State), decode w = .error reason → s.err = 0 →
      runWord w s = .next { s with err := 5, errOpc := w.extractLsb' 24 8 }

/-! ## A step (20_memory.md, 30_encoding.md R100, 70_reset_and_hazards.md) -/

/-- When the next bus event is the write of a legal command word to CMD, a step takes the event and executes the command
(R32, R66, R100). -/
def Obligations.StepRunsDecodedCommand : Prop :=
  ∀ (s : State) (w : Word) (i : Instr) (rest : List BusEvent),
    s.pending = .write 4 0x00 w :: rest → decode w = .ok i → step s = exec i { s with pending := rest }

/-- An illegal word records IllegalCommand (code 5) and its opcode byte and changes nothing else; while an error is
recorded it changes nothing (R90, R316; R313 and 90_conflicts.md C10 for the second clause). -/
def Obligations.StepRecordsIllegalWord : Prop :=
  ∀ (s : State) (w : Word) (reason : IllegalReason) (rest : List BusEvent),
    s.pending = .write 4 0x00 w :: rest → decode w = .error reason →
    (s.err = 0 → step s = .next { s with pending := rest, err := 5, errOpc := w.extractLsb' 24 8 }) ∧
    (s.err ≠ 0 → step s = .next { s with pending := rest })

/-- With no bus event pending the core is idle and holds its state (R324; that such a step exists is the model's choice,
assumption 5). -/
def Obligations.IdleStepHoldsState : Prop := ∀ s : State, s.pending = [] → step s = .next s

/-- A read of the window answers with the register's word, 0 for CMD and the reserved offsets, and changes nothing in the
core; a write of any offset but CMD is ignored (R27, R64, R68). -/
def Obligations.RegisterWindow : Prop :=
  ∀ (s : State) (offset : Byte) (rest : List BusEvent), offset.toNat % 4 = 0 →
    (s.pending = .read 4 offset :: rest →
      step s = .next { s with
        pending := rest
        readData :=
          if offset = 0x04 then s.status
          else if offset = 0x08 then s.result
          else if offset = 0x0C then 0x51524301
          else 0 }) ∧
    ∀ data : Word, s.pending = .write 4 offset data :: rest → offset ≠ 0x00 → step s = .next { s with pending := rest }

/-- An access that is not 32 bits wide or not at a multiple of 4 is refused (R65; 93_implementation_defined.md I20). -/
def Obligations.MalformedAccessRefused : Prop :=
  ∀ (s : State) (bytes : Nat) (offset : Byte) (data : Word) (rest : List BusEvent),
    bytes ≠ 4 ∨ offset.toNat % 4 ≠ 0 →
    s.pending = .read bytes offset :: rest ∨ s.pending = .write bytes offset data :: rest →
    step s = .refused .malformedAccess

/-- The reset input, between two accesses or during a command, leaves every architectural field at its reset value (R340,
R342). The model's own record of the bus is kept: assumptions 2 and 5. -/
def Obligations.ResetInput : Prop :=
  ∀ (s : State) (cmd : Word) (rest : List BusEvent),
    s.pending = .resetInput :: rest ∨ s.pending = .resetDuring cmd :: rest →
    step s = .next { State.reset with pending := rest, readData := s.readData }

/-- The fields of STATUS (R24). -/
def Obligations.StatusLayout : Prop :=
  ∀ s : State,
    s.status.extractLsb' 0 4 = s.err ∧ s.status.extractLsb' 4 4 = 0 ∧ s.status.extractLsb' 8 8 = s.errOpc ∧
    s.status.getLsbD 16 = s.cfgValid ∧ s.status.getLsbD 17 = s.matValid ∧ s.status.getLsbD 18 = s.rsValid ∧
    s.status.extractLsb' 19 13 = 0

/-! ## Errors (60_exceptions.md) -/

/-- A command that leaves an error recorded has changed no field but the two error fields, and those only if no error was
recorded before (R312, R313, R316). -/
def Obligations.ErrorsArePrecise : Prop :=
  ∀ (i : Instr) (s t : State), exec i s = .next t → t.err ≠ 0 →
    t = s ∨ s.err = 0 ∧ t = { s with err := t.err, errOpc := i.opcode }

/-- While an error is recorded only a well-formed ERR_CLR and SOFT_RESET have an effect; every other command is discarded,
every word of another opcode, legal or not, too, and a malformed ERR_CLR or SOFT_RESET keeps the first error (R313, R301,
R302). That SOFT_RESET keeps `pending` and `readData`, the model's own record of the bus, is the model's choice:
assumptions 1 and 2. -/
def Obligations.ErrorDiscardsCommands : Prop :=
  ∀ s : State, s.err ≠ 0 →
    (∀ i : Instr, i ≠ .errClr → i ≠ .softReset → exec i s = .next s) ∧
    (∀ w : Word, w ≠ 0x01000000 → w ≠ 0x02000000 → runWord w s = .next s) ∧
    exec .errClr s = .next { s with err := 0, errOpc := 0 } ∧
    exec .softReset s = .next { State.reset with pending := s.pending, readData := s.readData }

/-- Every word in every state has a next state (R100). -/
def Obligations.EveryWordHasNextState : Prop := ∀ (w : Word) (s : State), ∃ t, runWord w s = .next t

/-- A command that requires a configured symbol raises SequenceError (code 6) without one, whatever its operands, if they
are inside their encoding ranges; if one is not, its word raises IllegalCommand (code 5), which is checked first (R311,
R314 steps 4 and 5). -/
def Obligations.SequenceErrorWithoutSymbol : Prop :=
  ∀ (i : Instr) (s : State), i.needsSymbol = true → s.err = 0 → s.cfgValid = false →
    (i.wellFormed = true → exec i s = .next (s.failed 6 i) ∧ runWord (encode i) s = .next (s.failed 6 i)) ∧
    (i.wellFormed = false → runWord (encode i) s = .next (s.failed 5 i))

/-- The commands of R311's closing list raise no error. (Of a BCH command whose operand is outside its encoding range, which
no word decodes to, this is the model's choice: assumption 12.) -/
def Obligations.CommandsThatNeverFail : Prop :=
  ∀ (i : Instr) (s : State), i.neverFails = true → s.err = 0 → ∃ t, exec i s = .next t ∧ t.err = 0

/-! ## Control commands (48_control.md) -/

/-- NOP changes nothing; ERR_CLR clears the two error fields; SOFT_RESET leaves the reset state; ID writes the
identification word (R300 to R303). That SOFT_RESET keeps `pending` and `readData`, the model's own record of the bus, is
the model's choice: assumptions 1 and 2. -/
def Obligations.ControlCommands : Prop :=
  ∀ s : State,
    (s.err = 0 → exec .nop s = .next s) ∧
    exec .errClr s = .next { s with err := 0, errOpc := 0 } ∧
    exec .softReset s = .next { State.reset with pending := s.pending, readData := s.readData } ∧
    (s.err = 0 → exec .ident s = .next { s with result := 0x51524301 }) ∧
    Instr.wordIs .nop 0x00 0 ∧ Instr.wordIs .errClr 0x01 0 ∧ Instr.wordIs .softReset 0x02 0 ∧ Instr.wordIs .ident 0x03 0

/-! ## The field unit (41_galois_field.md) -/

/-- GF_EXP writes the power of `α` whose exponent is the signed immediate modulo 255 (R110 to R112). -/
def Obligations.GfExp : Prop :=
  ∀ (imm : Half) (s : State),
    Instr.wordIs (.gfExp imm) 0x10 imm.toNat ∧
    (s.err = 0 → exec (.gfExp imm) s = .next { s with result := (alphaPow (imm.toInt % 255).toNat).setWidth 32 })

/-- GF_LOG writes the exponent, `0..254`, whose power of `α` is the operand; the logarithm of 0 is InvalidFieldOperand
(R110, R113). -/
def Obligations.GfLog : Prop :=
  ∀ (b : Byte) (s : State),
    Instr.wordIs (.gfLog b) 0x11 b.toNat ∧
    (s.err = 0 → b ≠ 0 →
      ∃ n, n < 255 ∧ alphaPow n = b ∧ exec (.gfLog b) s = .next { s with result := BitVec.ofNat 32 n }) ∧
    (s.err = 0 → b = 0 → exec (.gfLog b) s = .next (s.failed 3 (.gfLog b)))

/-- GF_MUL writes the product of its operands as polynomials in `α`, reduced by the generator polynomial (R110, R114,
R115). -/
def Obligations.GfMul : Prop :=
  ∀ (a b : Byte) (s : State),
    Instr.wordIs (.gfMul a b) 0x12 (twoBytes a b) ∧
    (s.err = 0 → exec (.gfMul a b) s = .next { s with result := (polynomialProduct a b).setWidth 32 })

/-- GF_ADD writes the exclusive or of its operands (R116). -/
def Obligations.GfAdd : Prop :=
  ∀ (a b : Byte) (s : State),
    Instr.wordIs (.gfAdd a b) 0x13 (twoBytes a b) ∧
    (s.err = 0 → exec (.gfAdd a b) s = .next { s with result := (a ^^^ b).setWidth 32 })

/-- BCH_FMT and BCH_VER write the code word whose leading bits are the operand and that is a multiple of the generator
polynomial over GF(2); the format word is masked (R117 to R119). -/
def Obligations.BchCodewords : Prop :=
  ∀ (b : Byte) (s : State),
    Instr.wordIs (.bchFmt b) 0x14 b.toNat ∧ Instr.wordIs (.bchVer b) 0x15 b.toNat ∧
    (s.err = 0 → b.toNat ≤ 0x1F → ∃ q,
      carrylessProduct 5 0x537 q / 2 ^ 10 = b.toNat ∧
      exec (.bchFmt b) s = .next { s with result := BitVec.ofNat 32 (carrylessProduct 5 0x537 q ^^^ 0x5412) }) ∧
    (s.err = 0 → b.toNat ≤ 0x3F → ∃ q,
      carrylessProduct 6 0x1F25 q / 2 ^ 12 = b.toNat ∧
      exec (.bchVer b) s = .next { s with result := BitVec.ofNat 32 (carrylessProduct 6 0x1F25 q) }) ∧
    (0x1F < b.toNat → decode (encode (.bchFmt b)) = .error .operandOutOfRange) ∧
    (0x3F < b.toNat → decode (encode (.bchVer b)) = .error .operandOutOfRange)

/-! ## The polynomial unit (42_polynomial.md) -/

/-- P_CLR empties a register, P_PUSH appends a coefficient and strips leading zeros, P_SHIFT strips leading zeros and
appends `n` zeros; both raise ResourceLimit past 512 coefficients (R131 to R134). -/
def Obligations.PolyClearPushShift : Prop :=
  ∀ (pd pa : PReg) (imm : Half) (s : State),
    Instr.wordIs (.pClr pd) 0x20 (polyFields pd 0 0 0) ∧
    Instr.wordIs (.pPush pd imm) 0x21 (polyFields pd 0 0 imm.toNat) ∧
    Instr.wordIs (.pShift pd pa imm) 0x22 (polyFields pd pa 0 imm.toNat) ∧
    (s.err = 0 → exec (.pClr pd) s = .next { s with poly := s.poly.set pd [] }) ∧
    (s.err = 0 → imm.toNat ≤ 0xFF → s.poly[pd].length < 512 →
      exec (.pPush pd imm) s =
        .next { s with poly := s.poly.set pd ((s.poly[pd] ++ [imm.setWidth 8]).dropWhile (· == 0)) }) ∧
    (0xFF < imm.toNat → decode (encode (.pPush pd imm)) = .error .operandOutOfRange) ∧
    (s.err = 0 → imm.toNat ≤ 0xFF → 512 ≤ s.poly[pd].length →
      exec (.pPush pd imm) s = .next (s.failed 7 (.pPush pd imm))) ∧
    (s.err = 0 → (s.poly[pa].dropWhile (· == 0)).length + imm.toNat ≤ 512 →
      exec (.pShift pd pa imm) s =
        .next { s with poly := s.poly.set pd (s.poly[pa].dropWhile (· == 0) ++ List.replicate imm.toNat 0) }) ∧
    (s.err = 0 → 512 < (s.poly[pa].dropWhile (· == 0)).length + imm.toNat →
      exec (.pShift pd pa imm) s = .next (s.failed 7 (.pShift pd pa imm)))

/-- P_MUL writes the product: coefficient `k` is the sum of the products `a[i] ⊗ b[j]` with `i + j = k`, leading zeros
stripped, `[]` for an empty operand; an unstripped length above 512 is ResourceLimit (R131, R135). -/
def Obligations.PolyProduct : Prop :=
  ∀ (pd pa pb : PReg) (s : State),
    Instr.wordIs (.pMul pd pa pb) 0x23 (polyFields pd pa pb 0) ∧
    (s.err = 0 → s.poly[pa] = [] ∨ s.poly[pb] = [] →
      exec (.pMul pd pa pb) s = .next { s with poly := s.poly.set pd [] }) ∧
    (s.err = 0 → s.poly[pa] ≠ [] → s.poly[pb] ≠ [] → s.poly[pa].length + s.poly[pb].length - 1 ≤ 512 →
      exec (.pMul pd pa pb) s = .next { s with
        poly := s.poly.set pd (((List.range (s.poly[pa].length + s.poly[pb].length - 1)).map
          (productCoefficient s.poly[pa] s.poly[pb])).dropWhile (· == 0)) }) ∧
    (s.err = 0 → s.poly[pa] ≠ [] → s.poly[pb] ≠ [] → 512 < s.poly[pa].length + s.poly[pb].length - 1 →
      exec (.pMul pd pa pb) s = .next (s.failed 7 (.pMul pd pa pb)))

/-- P_MOD writes the remainder `r`: the dividend is `q` times the divisor plus `r`, `r` is canonical and shorter than the
divisor. A shorter dividend is kept unchanged; an empty divisor, or a zero leading coefficient where a division step would
be made, is InvalidFieldOperand (R131, R136). -/
def Obligations.PolyRemainder : Prop :=
  ∀ (pd pa pb : PReg) (a b : List Byte) (s : State), s.poly[pa] = a → s.poly[pb] = b →
    Instr.wordIs (.pMod pd pa pb) 0x24 (polyFields pd pa pb 0) ∧
    (s.err = 0 → b = [] → exec (.pMod pd pa pb) s = .next (s.failed 3 (.pMod pd pa pb))) ∧
    (s.err = 0 → a.length < b.length → exec (.pMod pd pa pb) s = .next { s with poly := s.poly.set pd a }) ∧
    (s.err = 0 → b ≠ [] → b.length ≤ a.length → a.head? = some 0 ∨ b.head? = some 0 →
      exec (.pMod pd pa pb) s = .next (s.failed 3 (.pMod pd pa pb))) ∧
    (s.err = 0 → b ≠ [] → b.length ≤ a.length → a.head? ≠ some 0 → b.head? ≠ some 0 → ∃ q r,
      q.length + b.length = a.length + 1 ∧ r.length < b.length ∧ r.head? ≠ some 0 ∧
      (∀ k, k < a.length → (a[k]?).getD 0 = productCoefficient q b k ^^^
        (if a.length ≤ k + r.length then (r[k + r.length - a.length]?).getD 0 else 0)) ∧
      exec (.pMod pd pa pb) s = .next { s with poly := s.poly.set pd r })

/-- The result of a P_MOD is shorter than the divisor, and a P_MOD of it by the same divisor changes nothing (R140). -/
def Obligations.PolyRemainderIdempotent : Prop :=
  ∀ (pd pa pb : PReg) (s t : State), pd ≠ pb → s.err = 0 → exec (.pMod pd pa pb) s = .next t → t.err = 0 →
    t.poly[pd].length < t.poly[pb].length ∧ exec (.pMod pd pd pb) t = .next t

/-- P_GEN writes the generator polynomial of `n` EC codewords, `n + 1` coefficients of which the first is 1; `n` above 511
is ResourceLimit (R137). -/
def Obligations.PolyGenerator : Prop :=
  ∀ (pd : PReg) (imm : Half) (s : State),
    Instr.wordIs (.pGen pd imm) 0x25 (polyFields pd 0 0 imm.toNat) ∧
    (rsGenerator imm.toNat).length = imm.toNat + 1 ∧ (rsGenerator imm.toNat).head? = some 1 ∧
    (s.err = 0 → imm.toNat ≤ 511 →
      exec (.pGen pd imm) s = .next { s with poly := s.poly.set pd (rsGenerator imm.toNat) }) ∧
    (s.err = 0 → 511 < imm.toNat → exec (.pGen pd imm) s = .next (s.failed 7 (.pGen pd imm)))

/-- P_LEN writes the length of a register, P_GET a coefficient, BoundsViolation at or past the length (R138, R139). -/
def Obligations.PolyReads : Prop :=
  ∀ (pa : PReg) (imm : Half) (s : State),
    Instr.wordIs (.pLen pa) 0x26 (polyFields 0 pa 0 0) ∧
    Instr.wordIs (.pGet pa imm) 0x27 (polyFields 0 pa 0 imm.toNat) ∧
    (s.err = 0 → exec (.pLen pa) s = .next { s with result := BitVec.ofNat 32 s.poly[pa].length }) ∧
    (∀ c, s.err = 0 → s.poly[pa][imm.toNat]? = some c →
      exec (.pGet pa imm) s = .next { s with result := c.setWidth 32 }) ∧
    (s.err = 0 → s.poly[pa].length ≤ imm.toNat → exec (.pGet pa imm) s = .next (s.failed 4 (.pGet pa imm)))

/-! ## The bit buffer (43_bitbuffer.md) -/

/-- BB_CLR empties the buffer; BB_PUT appends the low `SIZE` bits of `VAL`, most significant first, BB_PUTBIT one bit;
each clears `RS_VALID`; past 32768 bits is ResourceLimit (R160 to R164). -/
def Obligations.BitBufferAppends : Prop :=
  ∀ (size : BitVec 5) (val : Half) (b : Byte) (s : State),
    Instr.wordIs .bbClr 0x30 0 ∧ Instr.wordIs (.bbPut size val) 0x31 (size.toNat * 2 ^ 16 + val.toNat) ∧
    Instr.wordIs (.bbPutBit b) 0x32 b.toNat ∧
    (s.err = 0 → exec .bbClr s = .next { s with bb := [], rsValid := false }) ∧
    (s.err = 0 → size.toNat ≤ 16 → s.bb.length + size.toNat ≤ 32768 →
      exec (.bbPut size val) s =
        .next { s with bb := s.bb ++ msbFirst val.toNat size.toNat, rsValid := false }) ∧
    (16 < size.toNat → decode (encode (.bbPut size val)) = .error .operandOutOfRange) ∧
    (s.err = 0 → size.toNat ≤ 16 → 32768 < s.bb.length + size.toNat →
      exec (.bbPut size val) s = .next (s.failed 7 (.bbPut size val))) ∧
    (s.err = 0 → b.toNat ≤ 1 → s.bb.length < 32768 →
      exec (.bbPutBit b) s = .next { s with bb := s.bb ++ [b.getLsbD 0], rsValid := false }) ∧
    (1 < b.toNat → decode (encode (.bbPutBit b)) = .error .operandOutOfRange) ∧
    (s.err = 0 → b.toNat ≤ 1 → 32768 ≤ s.bb.length → exec (.bbPutBit b) s = .next (s.failed 7 (.bbPutBit b)))

/-- BB_GET and BB_GETBYTE read a bit and a byte, most significant bit first, with the last byte filled with zeros; past
the last byte is BoundsViolation; BB_LEN writes the bit count (R165 to R168). -/
def Obligations.BitBufferReads : Prop :=
  ∀ (imm : Half) (s : State),
    Instr.wordIs (.bbGet imm) 0x33 imm.toNat ∧ Instr.wordIs (.bbGetByte imm) 0x34 imm.toNat ∧
    Instr.wordIs .bbLen 0x35 0 ∧
    (s.err = 0 → imm.toNat < 8 * ((s.bb.length + 7) / 8) →
      exec (.bbGet imm) s = .next { s with result := if s.bb[imm.toNat]? = some true then 1 else 0 }) ∧
    (s.err = 0 → 8 * ((s.bb.length + 7) / 8) ≤ imm.toNat →
      exec (.bbGet imm) s = .next (s.failed 4 (.bbGet imm))) ∧
    (s.err = 0 → imm.toNat < (s.bb.length + 7) / 8 → ∃ v : Byte,
      (∀ j, j < 8 → v.getLsbD (7 - j) = (s.bb[8 * imm.toNat + j]?).getD false) ∧
      exec (.bbGetByte imm) s = .next { s with result := v.setWidth 32 }) ∧
    (s.err = 0 → (s.bb.length + 7) / 8 ≤ imm.toNat →
      exec (.bbGetByte imm) s = .next (s.failed 4 (.bbGetByte imm))) ∧
    (s.err = 0 → exec .bbLen s = .next { s with result := BitVec.ofNat 32 s.bb.length })

/-- A BB_PUT that succeeds adds its size to the length; BB_GET at the `i`-th new bit reads bit `size - 1 - i` of the value,
and below them what it read before (R169). -/
def Obligations.BitBufferReadsWhatWasPut : Prop :=
  ∀ (size : BitVec 5) (val imm : Half) (s t : State), s.err = 0 → size.toNat ≤ 16 →
    exec (.bbPut size val) s = .next t → t.err = 0 →
    t.bb.length = s.bb.length + size.toNat ∧
    (s.bb.length ≤ imm.toNat → imm.toNat < t.bb.length →
      exec (.bbGet imm) t = .next { t with
        result := if val.getLsbD (size.toNat - 1 - (imm.toNat - s.bb.length)) then 1 else 0 }) ∧
    (imm.toNat < s.bb.length →
      exec (.bbGet imm) t = .next { t with result := if s.bb[imm.toNat]? = some true then 1 else 0 })

/-! ## The encoder (44_encoder.md) -/

/-- SYM_CFG starts a new, empty symbol and keeps `P[0..3]`, RESULT and the error fields; a version outside `1..40` or a
level above 3 is ConfigurationError (R180, 70_reset_and_hazards.md R350). -/
def Obligations.SymbolConfiguration : Prop :=
  ∀ (a b : Byte) (s : State),
    Instr.wordIs (.symCfg a b) 0x40 (twoBytes a b) ∧
    (s.err = 0 → 1 ≤ a.toNat → a.toNat ≤ 40 → b.toNat ≤ 3 →
      exec (.symCfg a b) s = .next { s with
        version := BitVec.ofNat 6 a.toNat, ecl := BitVec.ofNat 2 b.toNat, cfgValid := true
        pay := [], seg := [], bb := [], dc := [], ec := [], rsValid := false, cw := []
        mat := List.replicate (4 * a.toNat + 17) (List.replicate (4 * a.toNat + 17) .unset)
        matValid := false, sel := 0, pen := Vector.replicate 8 ⟨0, 0, 0, 0⟩ }) ∧
    (s.err = 0 → a = 0 ∨ 40 < a.toNat ∨ 3 < b.toNat → exec (.symCfg a b) s = .next (s.failed 1 (.symCfg a b)))

/-- SEG_BEGIN opens an empty segment, SEG_BYTE appends a byte to the last one; each clears `MAT_VALID`; a full table or
payload is CapacityOverflow, a byte without a segment SequenceError (R189, R190). The byte lists of the segments grow
accordingly, where the lengths add up to the payload's (10_state.md R37). -/
def Obligations.SegmentAppends : Prop :=
  ∀ (b : Byte) (s : State),
    Instr.wordIs .segBegin 0x41 0 ∧ Instr.wordIs (.segByte b) 0x42 b.toNat ∧
    (s.unconfigured → exec .segBegin s = .next (s.failed 6 .segBegin)) ∧
    (s.unconfigured → exec (.segByte b) s = .next (s.failed 6 (.segByte b))) ∧
    (s.configured → s.seg.length < 2048 →
      exec .segBegin s = .next { s with seg := s.seg ++ [0], matValid := false }) ∧
    (s.configured → 2048 ≤ s.seg.length → exec .segBegin s = .next (s.failed 2 .segBegin)) ∧
    (∀ before last, s.configured → s.seg = before ++ [last] → s.pay.length < 4096 →
      exec (.segByte b) s =
        .next { s with pay := s.pay ++ [b], seg := before ++ [last + 1], matValid := false }) ∧
    (s.configured → s.seg = [] → exec (.segByte b) s = .next (s.failed 6 (.segByte b))) ∧
    (s.configured → s.seg ≠ [] → 4096 ≤ s.pay.length → exec (.segByte b) s = .next (s.failed 2 (.segByte b))) ∧
    (s.seg.sum = s.pay.length →
      (∀ k len, s.seg[k]? = some len →
        (segments s.pay s.seg)[k]? = some ((s.pay.drop (s.seg.take k).sum).take len)) ∧
      segments s.pay (s.seg ++ [0]) = segments s.pay s.seg ++ [[]] ∧
      ∀ before last, s.seg = before ++ [last] →
        segments (s.pay ++ [b]) (before ++ [last + 1]) =
          segments s.pay before ++ [s.pay.drop before.sum ++ [b]])

/-- ENC_DATA writes the data bitstream of the segments and clears `RS_VALID`; segments that do not fit are
CapacityOverflow (R191 to R196). -/
def Obligations.DataStreamAssembly : Prop :=
  ∀ s : State,
    Instr.wordIs .encData 0x43 0 ∧
    (s.configured → s.fits → ∃ bb,
      isDataStream s.version.toNat (8 * totalDataCount s.version.toNat s.ecl) (segments s.pay s.seg) bb ∧
      exec .encData s = .next { s with bb := bb, rsValid := false }) ∧
    (s.unconfigured → exec .encData s = .next (s.failed 6 .encData)) ∧
    (s.configured → ¬ s.fits → exec .encData s = .next (s.failed 2 .encData))

/-- ENC_RS writes, for every block of the plan, its data codewords, sliced from the buffer in order, and its EC codewords,
which make data and EC codewords together a multiple of the generator polynomial; it sets `RS_VALID`. A buffer that is
not exactly full is SequenceError (R182, R197, R198). -/
def Obligations.ReedSolomonBlocks : Prop :=
  ∀ s : State,
    Instr.wordIs .encRs 0x44 0 ∧
    (s.configured → s.bb.length = 8 * totalDataCount s.version.toNat s.ecl → ∃ dc ec,
      dc.length = (plan s.version.toNat s.ecl).length ∧ ec.length = (plan s.version.toNat s.ecl).length ∧
      (∀ b d t, (plan s.version.toNat s.ecl)[b]? = some (d, t) → ∃ D E q,
        dc[b]? = some D ∧ ec[b]? = some E ∧ D.length = d ∧ E.length = t - d ∧ q.length = d ∧
        (∀ i, i < d →
          D[i]? = some (byteAt s.bb ((((plan s.version.toNat s.ecl).take b).map Prod.fst).sum + i))) ∧
        ∀ k, k < t → ((D ++ E)[k]?).getD 0 = productCoefficient q (rsGenerator (t - d)) k) ∧
      exec .encRs s = .next { s with dc := dc, ec := ec, rsValid := true }) ∧
    (s.unconfigured → exec .encRs s = .next (s.failed 6 .encRs)) ∧
    (s.configured → s.bb.length ≠ 8 * totalDataCount s.version.toNat s.ecl →
      exec .encRs s = .next (s.failed 6 .encRs))

/-- ENC_ILV writes the codewords column by column, all data codewords before all EC codewords; without `RS_VALID` it is
SequenceError (R199, R200). -/
def Obligations.InterleavedCodewords : Prop :=
  ∀ s : State,
    Instr.wordIs .encIlv 0x45 0 ∧
    (s.configured → s.rsValid = true → ∃ cw,
      cw.length = (s.dc.map List.length).sum + (s.ec.map List.length).sum ∧
      (∀ b d i x, s.dc[b]? = some d → d[i]? = some x → cw[columnPosition s.dc b i]? = some x) ∧
      (∀ b e i x, s.ec[b]? = some e → e[i]? = some x →
        cw[(s.dc.map List.length).sum + columnPosition s.ec b i]? = some x) ∧
      exec .encIlv s = .next { s with cw := cw }) ∧
    (s.unconfigured → exec .encIlv s = .next (s.failed 6 .encIlv)) ∧
    (s.configured → s.rsValid = false → exec .encIlv s = .next (s.failed 6 .encIlv))

/-- CW_LEN and CW_GET read the codeword RAM, PLAN_CNT and PLAN_GET the block plan, an index past the end is
BoundsViolation; the bounds of the plan's numbers (R202 to R205). The last clause rests on what the spec marks as derived
from its tables: the plan of every version and level is the one that its row's columns EC/block and blocks (R201) and the
geometry of the symbol (95_test_vectors.md section 1) give, and meets the derived checks of R201 and R206. -/
def Obligations.CodewordAndPlanReads : Prop :=
  ∀ (imm : Half) (s : State),
    Instr.wordIs .cwLen 0x46 0 ∧ Instr.wordIs (.cwGet imm) 0x47 imm.toNat ∧ Instr.wordIs .planCnt 0x48 0 ∧
    Instr.wordIs (.planGet imm) 0x49 imm.toNat ∧
    (s.err = 0 → exec .cwLen s = .next { s with result := BitVec.ofNat 32 s.cw.length }) ∧
    (∀ c, s.err = 0 → s.cw[imm.toNat]? = some c →
      exec (.cwGet imm) s = .next { s with result := c.setWidth 32 }) ∧
    (s.err = 0 → s.cw.length ≤ imm.toNat → exec (.cwGet imm) s = .next (s.failed 4 (.cwGet imm))) ∧
    (s.unconfigured → exec .planCnt s = .next (s.failed 6 .planCnt)) ∧
    (s.unconfigured → exec (.planGet imm) s = .next (s.failed 6 (.planGet imm))) ∧
    (s.configured → exec .planCnt s =
      .next { s with result := BitVec.ofNat 32 (plan s.version.toNat s.ecl).length }) ∧
    (∀ d t, s.configured → (plan s.version.toNat s.ecl)[imm.toNat]? = some (d, t) →
      d ≤ 123 ∧ t ≤ 153 ∧ exec (.planGet imm) s = .next { s with result := BitVec.ofNat 32 (t * 2 ^ 8 + d) }) ∧
    (s.configured → (plan s.version.toNat s.ecl).length ≤ imm.toNat →
      exec (.planGet imm) s = .next (s.failed 4 (.planGet imm))) ∧
    (s.hasVersion → 1 ≤ (plan s.version.toNat s.ecl).length ∧ (plan s.version.toNat s.ecl).length ≤ 81) ∧
    ∀ (v : Nat) (l : BitVec 2), 1 ≤ v → v ≤ 40 → planMeetsColumns v l ∧ planMeetsChecks v l

/-! ## The matrix builder (45_matrix.md) -/

/-- MX_CLR makes every cell unset; MX_RD reads a cell as 0, 2 or 3, BoundsViolation outside the matrix (R232, R248). -/
def Obligations.MatrixClearAndRead : Prop :=
  ∀ (a b : Byte) (s : State),
    Instr.wordIs .mxClr 0x50 0 ∧ Instr.wordIs (.mxRd a b) 0x58 (twoBytes a b) ∧
    (s.unconfigured → exec .mxClr s = .next (s.failed 6 .mxClr)) ∧
    (s.unconfigured → exec (.mxRd a b) s = .next (s.failed 6 (.mxRd a b))) ∧
    (s.configured →
      exec .mxClr s =
        .next { s with mat := List.replicate s.n (List.replicate s.n .unset), matValid := false }) ∧
    (∀ row cell, s.configured → a.toNat < s.n → b.toNat < s.n → s.mat[a.toNat]? = some row → row[b.toNat]? = some cell →
      exec (.mxRd a b) s = .next { s with
        result := match cell with
          | .unset => 0
          | .light => 2
          | .dark => 3 }) ∧
    (s.configured → s.n ≤ a.toNat ∨ s.n ≤ b.toNat → exec (.mxRd a b) s = .next (s.failed 4 (.mxRd a b)))

/-- MX_FINDER fills the unset cells of the three finder patterns and their separators (R231, R233, R234). -/
def Obligations.FinderPatterns : Prop :=
  ∀ s : State,
    Instr.wordIs .mxFinder 0x51 0 ∧
    (s.unconfigured → exec .mxFinder s = .next (s.failed 6 .mxFinder)) ∧
    (s.configured → s.hasVersion → s.matShaped → ∃ m,
      fillsUnset s.n s.mat m (finderCell s.n) ∧ exec .mxFinder s = .next { s with mat := m, matValid := false })

/-- MX_ALIGN fills the unset cells of the alignment patterns whose centre is unset (R231, R236, R237). In the
last clause the coordinates of every version meet the facts that R238 marks as derived from its table (the first, the last,
how many, how many patterns); that they rise, are even and are equally spaced from the second on is read off the table, no
sentence of R238. -/
def Obligations.AlignmentPatterns : Prop :=
  ∀ s : State,
    Instr.wordIs .mxAlign 0x52 0 ∧
    (s.unconfigured → exec .mxAlign s = .next (s.failed 6 .mxAlign)) ∧
    (s.configured → s.hasVersion → s.matShaped → ∃ m,
      fillsUnset s.n s.mat m (alignCell s.version.toNat s.mat) ∧
      exec .mxAlign s = .next { s with mat := m, matValid := false }) ∧
    ∀ v : Nat, 1 ≤ v → v ≤ 40 → alignMeetsFacts v

/-- MX_TIMING fills the unset cells of column 6 and row 6, dark at even coordinates (R231, R239, R240). -/
def Obligations.TimingPatterns : Prop :=
  ∀ s : State,
    Instr.wordIs .mxTiming 0x53 0 ∧
    (s.unconfigured → exec .mxTiming s = .next (s.failed 6 .mxTiming)) ∧
    (s.configured → s.matShaped → ∃ m,
      fillsUnset s.n s.mat m timingCell ∧ exec .mxTiming s = .next { s with mat := m, matValid := false })

/-- MX_FORMAT fills the unset cells of both copies of the format word, all light in a trial, and the dark module; a mask
above 7 is InvalidFieldOperand (R231, R241, R242). -/
def Obligations.FormatInformation : Prop :=
  ∀ (a b : Byte) (s : State),
    Instr.wordIs (.mxFormat a b) 0x54 (twoBytes a b) ∧
    (s.unconfigured → b.toNat ≤ 1 → exec (.mxFormat a b) s = .next (s.failed 6 (.mxFormat a b))) ∧
    (1 < b.toNat → decode (encode (.mxFormat a b)) = .error .operandOutOfRange) ∧
    (s.configured → s.hasVersion → s.matShaped → a.toNat ≤ 7 → b.toNat ≤ 1 → ∃ m,
      fillsUnset s.n s.mat m
        (formatCell s.n (if b = 1 then 0 else bchFormat (s.ecl.toNat * 2 ^ 3 + a.toNat))) ∧
      exec (.mxFormat a b) s = .next { s with mat := m, matValid := false }) ∧
    (s.configured → 7 < a.toNat → b.toNat ≤ 1 → exec (.mxFormat a b) s = .next (s.failed 3 (.mxFormat a b)))

/-- MX_VERSION fills the unset cells of both copies of the version word at versions 7 to 40, in a trial too, and changes
only `MAT_VALID` below version 7 (R231, R243, R244). -/
def Obligations.VersionInformation : Prop :=
  ∀ (b : Byte) (s : State),
    Instr.wordIs (.mxVersion b) 0x55 b.toNat ∧
    (s.unconfigured → b.toNat ≤ 1 → exec (.mxVersion b) s = .next (s.failed 6 (.mxVersion b))) ∧
    (1 < b.toNat → decode (encode (.mxVersion b)) = .error .operandOutOfRange) ∧
    (s.configured → s.version.toNat < 7 → b.toNat ≤ 1 →
      exec (.mxVersion b) s = .next { s with matValid := false }) ∧
    (s.configured → 7 ≤ s.version.toNat → s.matShaped → b.toNat ≤ 1 → ∃ m,
      fillsUnset s.n s.mat m (versionCell s.n (bchVersion s.version.toNat)) ∧
      exec (.mxVersion b) s = .next { s with mat := m, matValid := false })

/-- MX_DATA gives every unset cell outside column 6, in the order it visits them, the next bit of the codeword stream, 0
past its end, inverted where the mask says; a mask above 7 is InvalidFieldOperand (R231, R245, R246). -/
def Obligations.DataPlacement : Prop :=
  ∀ (b : Byte) (s : State),
    Instr.wordIs (.mxData b) 0x56 b.toNat ∧
    (s.unconfigured → exec (.mxData b) s = .next (s.failed 6 (.mxData b))) ∧
    (s.configured → s.matShaped → b.toNat ≤ 7 → ∃ m f,
      fillsUnset s.n s.mat m f ∧
      (∀ r c, r < s.n → c < s.n → DataCell s.n s.mat s.cw b.toNat r c (f r c)) ∧
      exec (.mxData b) s = .next { s with mat := m, matValid := false }) ∧
    (s.configured → 7 < b.toNat → exec (.mxData b) s = .next (s.failed 3 (.mxData b)))

/-- MX_BUILD is MX_CLR, MX_FINDER, MX_ALIGN, MX_TIMING, MX_FORMAT, MX_VERSION and MX_DATA in that order, and leaves no
cell unset; a mask above 7 is InvalidFieldOperand (R230, R247, R249). -/
def Obligations.MatrixBuild : Prop :=
  ∀ (a b : Byte) (s : State),
    Instr.wordIs (.mxBuild a b) 0x57 (twoBytes a b) ∧
    (s.unconfigured → b.toNat ≤ 1 → exec (.mxBuild a b) s = .next (s.failed 6 (.mxBuild a b))) ∧
    (1 < b.toNat → decode (encode (.mxBuild a b)) = .error .operandOutOfRange) ∧
    (s.configured → a.toNat ≤ 7 → b.toNat ≤ 1 → ∃ s1 s2 s3 s4 s5 s6 t,
      exec .mxClr s = .next s1 ∧ exec .mxFinder s1 = .next s2 ∧ exec .mxAlign s2 = .next s3 ∧
      exec .mxTiming s3 = .next s4 ∧ exec (.mxFormat a b) s4 = .next s5 ∧ exec (.mxVersion b) s5 = .next s6 ∧
      exec (.mxData a) s6 = .next t ∧ t.err = 0 ∧ t.matShaped ∧ (∀ row ∈ t.mat, ∀ cell ∈ row, cell ≠ .unset) ∧
      exec (.mxBuild a b) s = .next t) ∧
    (s.configured → 7 < a.toNat → b.toNat ≤ 1 → exec (.mxBuild a b) s = .next (s.failed 3 (.mxBuild a b)))

/-! ## The mask selector (46_mask.md) -/

/-- MS_SCORE writes the penalty record of a complete matrix into a slot; a slot above 7 is InvalidFieldOperand, and after
that check an unset cell is SequenceError (R270 to R272, 60_exceptions.md R314). -/
def Obligations.MatrixScore : Prop :=
  ∀ (b : Byte) (s : State),
    Instr.wordIs (.msScore b) 0x60 b.toNat ∧
    (s.unconfigured → exec (.msScore b) s = .next (s.failed 6 (.msScore b))) ∧
    (∀ h : b.toNat < 8, s.configured → (∀ row ∈ s.mat, ∀ cell ∈ row, cell ≠ .unset) →
      exec (.msScore b) s = .next { s with pen := s.pen.set b.toNat (countedPenalty s.mat s.n) h }) ∧
    (s.configured → 8 ≤ b.toNat → exec (.msScore b) s = .next (s.failed 3 (.msScore b))) ∧
    (s.configured → b.toNat < 8 → (∃ row ∈ s.mat, .unset ∈ row) →
      exec (.msScore b) s = .next (s.failed 6 (.msScore b)))

/-- MS_SELECT scores the eight trial matrices MX_BUILD makes, chooses the mask of the least exact score, the first of
equals, and leaves the final matrix of that mask (R273 to R276). -/
def Obligations.MaskSelection : Prop :=
  ∀ s : State,
    Instr.wordIs .msSelect 0x61 0 ∧
    (s.unconfigured → exec .msSelect s = .next (s.failed 6 .msSelect)) ∧
    (s.configured → ∃ (pen : Vector Penalty 8) (m : Mat) (best : Fin 8),
      (∀ k : Fin 8, ∃ t, exec (.mxBuild (BitVec.ofNat 8 k.val) 1) s = .next t ∧ t.err = 0 ∧
        pen[k] = countedPenalty t.mat s.n) ∧
      (∃ t, exec (.mxBuild (BitVec.ofNat 8 best.val) 0) s = .next t ∧ t.err = 0 ∧ m = t.mat) ∧
      (∀ k : Fin 8, score s.n pen[best] ≤ score s.n pen[k]) ∧
      (∀ k : Fin 8, k < best → score s.n pen[best] < score s.n pen[k]) ∧
      exec .msSelect s = .next { s with
        pen := pen, mat := m, sel := BitVec.ofNat 3 best.val, result := BitVec.ofNat 32 best.val
        matValid := false })

/-- MS_SELECT depends on `VERSION`, `ECL` and `CW` alone (R278). -/
def Obligations.SelectionDependsOnCodewordsAlone : Prop :=
  ∀ s s' t t' : State, s.configured → s'.configured → s.version = s'.version → s.ecl = s'.ecl → s.cw = s'.cw →
    exec .msSelect s = .next t → exec .msSelect s' = .next t' →
    t.pen = t'.pen ∧ t.mat = t'.mat ∧ t.sel = t'.sel ∧ t.result = t'.result

/-- PEN_GET writes one part of a penalty record; a slot above 7 is InvalidFieldOperand (R277). -/
def Obligations.PenaltyReads : Prop :=
  ∀ (a b : Byte) (s : State),
    Instr.wordIs (.penGet a b) 0x62 (twoBytes a b) ∧
    (∀ h : a.toNat < 8, s.err = 0 →
      exec (.penGet a 0) s = .next { s with result := BitVec.ofNat 32 (s.pen[a.toNat]'h).r1 } ∧
      exec (.penGet a 1) s = .next { s with result := BitVec.ofNat 32 (s.pen[a.toNat]'h).r2 } ∧
      exec (.penGet a 2) s = .next { s with result := BitVec.ofNat 32 (s.pen[a.toNat]'h).r3 } ∧
      exec (.penGet a 3) s = .next { s with result := BitVec.ofNat 32 (s.pen[a.toNat]'h).dk }) ∧
    (3 < b.toNat → decode (encode (.penGet a b)) = .error .operandOutOfRange) ∧
    (s.err = 0 → 8 ≤ a.toNat → b.toNat ≤ 3 → exec (.penGet a b) s = .next (s.failed 3 (.penGet a b)))

/-! ## The façade (47_facade.md) -/

/-- BUILD is ENC_DATA, ENC_RS, ENC_ILV and MS_SELECT in that order, and sets `MAT_VALID`; segments that do not fit are
CapacityOverflow and build nothing (R290). -/
def Obligations.BuildRunsThePipeline : Prop :=
  ∀ s : State,
    Instr.wordIs .build 0x70 0 ∧
    (s.unconfigured → exec .build s = .next (s.failed 6 .build)) ∧
    (s.configured → s.fits → ∃ s1 s2 s3 t,
      exec .encData s = .next s1 ∧ exec .encRs s1 = .next s2 ∧ exec .encIlv s2 = .next s3 ∧
      exec .msSelect s3 = .next t ∧ t.err = 0 ∧ exec .build s = .next { t with matValid := true }) ∧
    (s.configured → ¬ s.fits → exec .build s = .next (s.failed 2 .build))

/-- RD_COUNT writes the module count, RD_CFG the version and the level; neither builds (R291, R295). -/
def Obligations.CountAndConfigurationReads : Prop :=
  ∀ s : State,
    Instr.wordIs .rdCount 0x71 0 ∧ Instr.wordIs .rdCfg 0x74 0 ∧
    (s.unconfigured → exec .rdCount s = .next (s.failed 6 .rdCount)) ∧
    (s.unconfigured → exec .rdCfg s = .next (s.failed 6 .rdCfg)) ∧
    (s.configured → exec .rdCount s = .next { s with result := BitVec.ofNat 32 (4 * s.version.toNat + 17) }) ∧
    (s.configured →
      exec .rdCfg s = .next { s with result := BitVec.ofNat 32 (s.version.toNat + s.ecl.toNat * 2 ^ 8) })

/-- RD_DARK reads a module of the cached symbol, or of the one BUILD makes when there is none; its bounds are checked
first; segments that do not fit are CapacityOverflow (R207, R292). -/
def Obligations.DarkReadBuildsLazily : Prop :=
  ∀ (a b : Byte) (s : State),
    Instr.wordIs (.rdDark a b) 0x72 (twoBytes a b) ∧
    (s.unconfigured → exec (.rdDark a b) s = .next (s.failed 6 (.rdDark a b))) ∧
    (s.configured → s.n ≤ a.toNat ∨ s.n ≤ b.toNat → exec (.rdDark a b) s = .next (s.failed 4 (.rdDark a b))) ∧
    (s.configured → a.toNat < s.n → b.toNat < s.n → s.matValid = true →
      exec (.rdDark a b) s =
        .next { s with result := if getCell s.mat a.toNat b.toNat = .dark then 1 else 0 }) ∧
    (s.configured → a.toNat < s.n → b.toNat < s.n → s.matValid = false → s.fits → ∃ t,
      exec .build s = .next t ∧ t.err = 0 ∧
      exec (.rdDark a b) s =
        .next { t with result := if getCell t.mat a.toNat b.toNat = .dark then 1 else 0 }) ∧
    (s.configured → a.toNat < s.n → b.toNat < s.n → s.matValid = false → ¬ s.fits →
      exec (.rdDark a b) s = .next (s.failed 2 (.rdDark a b)))

/-- RD_MASK reads the chosen mask of the cached symbol, or of the one BUILD makes when there is none; segments that do not
fit are CapacityOverflow (R207, R294). -/
def Obligations.MaskReadBuildsLazily : Prop :=
  ∀ s : State,
    Instr.wordIs .rdMask 0x73 0 ∧
    (s.unconfigured → exec .rdMask s = .next (s.failed 6 .rdMask)) ∧
    (s.configured → s.matValid = true → exec .rdMask s = .next { s with result := s.sel.setWidth 32 }) ∧
    (s.configured → s.matValid = false → s.fits → ∃ t,
      exec .build s = .next t ∧ t.err = 0 ∧ exec .rdMask s = .next { t with result := t.sel.setWidth 32 }) ∧
    (s.configured → s.matValid = false → ¬ s.fits → exec .rdMask s = .next (s.failed 2 .rdMask))

/-! ## The whole machine -/

/-- Every architectural field after reset and after SOFT_RESET (10_state.md R50), and the invariants there. The last two
fields of the state are the model's own (assumptions 1 and 2). -/
def Obligations.ResetState : Prop :=
  State.reset.err = 0 ∧ State.reset.errOpc = 0 ∧ State.reset.result = 0 ∧ State.reset.version = 0 ∧
  State.reset.ecl = 0 ∧ State.reset.cfgValid = false ∧ State.reset.pay = [] ∧ State.reset.seg = [] ∧
  State.reset.bb = [] ∧ State.reset.dc = [] ∧ State.reset.ec = [] ∧ State.reset.rsValid = false ∧
  State.reset.cw = [] ∧ (∀ r : PReg, State.reset.poly[r] = []) ∧ State.reset.mat = [] ∧
  State.reset.matValid = false ∧ State.reset.sel = 0 ∧ (∀ m : Fin 8, State.reset.pen[m] = ⟨0, 0, 0, 0⟩) ∧
  (∀ s : State, ∃ t, exec .softReset s = .next t ∧ { t with pending := [], readData := 0 } = State.reset) ∧
  Memory.wf State.reset ∧ State.reset.statusWf ∧ State.reset.penaltiesBounded ∧ State.reset.cacheCoherent

/-- Every step keeps every internal memory within its size and of its shape (10_state.md R49 (a), (e)). -/
def Obligations.StepKeepsMemoriesWellFormed : Prop :=
  ∀ s t : State, Memory.wf s → step s = .next t → Memory.wf t

/-- Every step keeps the error fields, the configuration and the RS flag as R24, R25, R34 and R49 (b), (d) say, but for the
clause of R49 (b) about `BB` (assumption 6; how far it holds is BufferEmptyUntilPutWithoutSymbol). -/
def Obligations.StepKeepsStatusWellFormed : Prop :=
  ∀ s t : State, s.statusWf → step s = .next t → t.statusWf

/-- Every step but a BB_PUT or BB_PUTBIT keeps the clause of R49 (b) about `BB`: without a symbol the buffer is empty. Those
two append without a symbol too (R163, R164, R343), so no more of the clause holds: a BB_PUT of one bit or more, and a
BB_PUTBIT, that find room leave a buffer that is not empty (assumption 6). -/
def Obligations.BufferEmptyUntilPutWithoutSymbol : Prop :=
  (∀ s t : State, (s.cfgValid = false → s.bb = []) →
    (∀ w rest, s.pending = .write 4 0x00 w :: rest → w.toNat / 2 ^ 24 ∉ [0x31, 0x32]) →
    step s = .next t → t.cfgValid = false → t.bb = []) ∧
  ∀ (i : Instr) (s : State), i.wellFormed = true → i.opcode ∈ [0x31, 0x32] → s.unconfigured →
    (∀ val, i ≠ .bbPut 0 val) → s.bb.length + 16 ≤ 32768 → ∃ t, exec i s = .next t ∧ t.unconfigured ∧ t.bb ≠ []

/-- Every step keeps the penalty records within their bounds (10_state.md R45). -/
def Obligations.StepKeepsPenaltiesBounded : Prop :=
  ∀ s t : State, s.penaltiesBounded → step s = .next t → t.penaltiesBounded

/-- Every step keeps the cache coherent: while `MAT_VALID` is set, the matrix is complete and BUILD would compute the same
matrix and the same mask (10_state.md R49 (c), 47_facade.md R297). -/
def Obligations.StepKeepsCacheCoherent : Prop :=
  ∀ s t : State, s.cacheCoherent → step s = .next t → t.cacheCoherent

/-- Which commands write what (20_memory.md R61, 10_state.md R23, R34, R39 to R45): every other command leaves the
field as it was. The flags MAT_VALID and RS_VALID, too, are changed by the commands R39, R43, R46 and R297 name alone,
and set by fewer. That no command, SOFT_RESET among them, changes `pending` and `readData`, the model's own record of
the bus, is the model's choice: assumptions 1 and 2. RD_DARK and RD_MASK write nothing but RESULT while the cache is
valid. (`exec` of a command with an operand outside its encoding range, which no word decodes to, is the model's
choice: assumption 12.) -/
def Obligations.OnlyTheNamedCommandsWrite : Prop :=
  ∀ (i : Instr) (s t : State), exec i s = .next t →
    (i.opcode ∉ [0x02, 0x40] → t.version = s.version ∧ t.ecl = s.ecl ∧ t.cfgValid = s.cfgValid) ∧
    (i.opcode ∉ [0x02, 0x40, 0x41, 0x42] → t.pay = s.pay ∧ t.seg = s.seg) ∧
    (i.opcode ∉ [0x02, 0x30, 0x31, 0x32, 0x40, 0x43, 0x70, 0x72, 0x73] → t.bb = s.bb) ∧
    (i.opcode ∉ [0x02, 0x40, 0x44, 0x70, 0x72, 0x73] → t.dc = s.dc ∧ t.ec = s.ec) ∧
    (i.opcode ∉ [0x02, 0x40, 0x45, 0x70, 0x72, 0x73] → t.cw = s.cw) ∧
    (i.opcode ∉ [0x02, 0x20, 0x21, 0x22, 0x23, 0x24, 0x25] → t.poly = s.poly) ∧
    (i.opcode ∉ [0x02, 0x40, 0x50, 0x51, 0x52, 0x53, 0x54, 0x55, 0x56, 0x57, 0x61, 0x70, 0x72, 0x73] →
      t.mat = s.mat) ∧
    (i.opcode ∉ [0x02, 0x40, 0x60, 0x61, 0x70, 0x72, 0x73] → t.pen = s.pen) ∧
    (i.opcode ∉ [0x02, 0x40, 0x61, 0x70, 0x72, 0x73] → t.sel = s.sel) ∧
    (i.opcode ∉ [0x02, 0x03, 0x10, 0x11, 0x12, 0x13, 0x14, 0x15, 0x26, 0x27, 0x33, 0x34, 0x35, 0x46, 0x47, 0x48, 0x49,
      0x58, 0x61, 0x62, 0x70, 0x71, 0x72, 0x73, 0x74] → t.result = s.result) ∧
    (i.opcode ∈ [0x72, 0x73] → s.matValid = true → t = { s with result := t.result } ∨ t.err ≠ 0) ∧
    (i.opcode ∉ [0x02, 0x40, 0x41, 0x42, 0x50, 0x51, 0x52, 0x53, 0x54, 0x55, 0x56, 0x57, 0x61, 0x70, 0x72, 0x73] →
      t.matValid = s.matValid) ∧
    (i.opcode ∉ [0x02, 0x30, 0x31, 0x32, 0x40, 0x43, 0x44, 0x70, 0x72, 0x73] → t.rsValid = s.rsValid) ∧
    (t.matValid = true → s.matValid = false → i.opcode ∈ [0x70, 0x72, 0x73]) ∧
    (t.rsValid = true → s.rsValid = false → i.opcode ∈ [0x44, 0x70, 0x72, 0x73]) ∧
    t.pending = s.pending ∧ t.readData = s.readData

end
end

