-- ==== Sys2Proof/Laws/State.lean ====
section
/-! SUPPORT. One lemma per field per named update of the state, so that no later proof unfolds an update. -/

namespace Sys2Proof.Machine

variable (s : State)

/-! ### setResult -/

@[simp] theorem setResult_err (v : Word) : (s.setResult v).err = s.err := rfl
@[simp] theorem setResult_errOpc (v : Word) : (s.setResult v).errOpc = s.errOpc := rfl
@[simp] theorem setResult_result (v : Word) : (s.setResult v).result = v := rfl
@[simp] theorem setResult_version (v : Word) : (s.setResult v).version = s.version := rfl
@[simp] theorem setResult_ecl (v : Word) : (s.setResult v).ecl = s.ecl := rfl
@[simp] theorem setResult_cfgValid (v : Word) : (s.setResult v).cfgValid = s.cfgValid := rfl
@[simp] theorem setResult_pay (v : Word) : (s.setResult v).pay = s.pay := rfl
@[simp] theorem setResult_seg (v : Word) : (s.setResult v).seg = s.seg := rfl
@[simp] theorem setResult_bb (v : Word) : (s.setResult v).bb = s.bb := rfl
@[simp] theorem setResult_dc (v : Word) : (s.setResult v).dc = s.dc := rfl
@[simp] theorem setResult_ec (v : Word) : (s.setResult v).ec = s.ec := rfl
@[simp] theorem setResult_rsValid (v : Word) : (s.setResult v).rsValid = s.rsValid := rfl
@[simp] theorem setResult_cw (v : Word) : (s.setResult v).cw = s.cw := rfl
@[simp] theorem setResult_poly (v : Word) : (s.setResult v).poly = s.poly := rfl
@[simp] theorem setResult_mat (v : Word) : (s.setResult v).mat = s.mat := rfl
@[simp] theorem setResult_matValid (v : Word) : (s.setResult v).matValid = s.matValid := rfl
@[simp] theorem setResult_sel (v : Word) : (s.setResult v).sel = s.sel := rfl
@[simp] theorem setResult_pen (v : Word) : (s.setResult v).pen = s.pen := rfl
@[simp] theorem setResult_pending (v : Word) : (s.setResult v).pending = s.pending := rfl
@[simp] theorem setResult_readData (v : Word) : (s.setResult v).readData = s.readData := rfl
@[simp] theorem setResult_n (v : Word) : (s.setResult v).n = s.n := rfl

/-! ### setPoly -/

@[simp] theorem setPoly_err (r : PReg) (l : List Byte) : (s.setPoly r l).err = s.err := rfl
@[simp] theorem setPoly_errOpc (r : PReg) (l : List Byte) : (s.setPoly r l).errOpc = s.errOpc := rfl
@[simp] theorem setPoly_result (r : PReg) (l : List Byte) : (s.setPoly r l).result = s.result := rfl
@[simp] theorem setPoly_version (r : PReg) (l : List Byte) : (s.setPoly r l).version = s.version := rfl
@[simp] theorem setPoly_ecl (r : PReg) (l : List Byte) : (s.setPoly r l).ecl = s.ecl := rfl
@[simp] theorem setPoly_cfgValid (r : PReg) (l : List Byte) : (s.setPoly r l).cfgValid = s.cfgValid := rfl
@[simp] theorem setPoly_pay (r : PReg) (l : List Byte) : (s.setPoly r l).pay = s.pay := rfl
@[simp] theorem setPoly_seg (r : PReg) (l : List Byte) : (s.setPoly r l).seg = s.seg := rfl
@[simp] theorem setPoly_bb (r : PReg) (l : List Byte) : (s.setPoly r l).bb = s.bb := rfl
@[simp] theorem setPoly_dc (r : PReg) (l : List Byte) : (s.setPoly r l).dc = s.dc := rfl
@[simp] theorem setPoly_ec (r : PReg) (l : List Byte) : (s.setPoly r l).ec = s.ec := rfl
@[simp] theorem setPoly_rsValid (r : PReg) (l : List Byte) : (s.setPoly r l).rsValid = s.rsValid := rfl
@[simp] theorem setPoly_cw (r : PReg) (l : List Byte) : (s.setPoly r l).cw = s.cw := rfl
@[simp] theorem setPoly_poly (r : PReg) (l : List Byte) : (s.setPoly r l).poly = s.poly.set r l := rfl
@[simp] theorem setPoly_mat (r : PReg) (l : List Byte) : (s.setPoly r l).mat = s.mat := rfl
@[simp] theorem setPoly_matValid (r : PReg) (l : List Byte) : (s.setPoly r l).matValid = s.matValid := rfl
@[simp] theorem setPoly_sel (r : PReg) (l : List Byte) : (s.setPoly r l).sel = s.sel := rfl
@[simp] theorem setPoly_pen (r : PReg) (l : List Byte) : (s.setPoly r l).pen = s.pen := rfl
@[simp] theorem setPoly_pending (r : PReg) (l : List Byte) : (s.setPoly r l).pending = s.pending := rfl
@[simp] theorem setPoly_readData (r : PReg) (l : List Byte) : (s.setPoly r l).readData = s.readData := rfl
@[simp] theorem setPoly_n (r : PReg) (l : List Byte) : (s.setPoly r l).n = s.n := rfl

/-! ### writeBb -/

@[simp] theorem writeBb_err (l : List Bool) : (s.writeBb l).err = s.err := rfl
@[simp] theorem writeBb_errOpc (l : List Bool) : (s.writeBb l).errOpc = s.errOpc := rfl
@[simp] theorem writeBb_result (l : List Bool) : (s.writeBb l).result = s.result := rfl
@[simp] theorem writeBb_version (l : List Bool) : (s.writeBb l).version = s.version := rfl
@[simp] theorem writeBb_ecl (l : List Bool) : (s.writeBb l).ecl = s.ecl := rfl
@[simp] theorem writeBb_cfgValid (l : List Bool) : (s.writeBb l).cfgValid = s.cfgValid := rfl
@[simp] theorem writeBb_pay (l : List Bool) : (s.writeBb l).pay = s.pay := rfl
@[simp] theorem writeBb_seg (l : List Bool) : (s.writeBb l).seg = s.seg := rfl
@[simp] theorem writeBb_bb (l : List Bool) : (s.writeBb l).bb = l := rfl
@[simp] theorem writeBb_dc (l : List Bool) : (s.writeBb l).dc = s.dc := rfl
@[simp] theorem writeBb_ec (l : List Bool) : (s.writeBb l).ec = s.ec := rfl
@[simp] theorem writeBb_rsValid (l : List Bool) : (s.writeBb l).rsValid = false := rfl
@[simp] theorem writeBb_cw (l : List Bool) : (s.writeBb l).cw = s.cw := rfl
@[simp] theorem writeBb_poly (l : List Bool) : (s.writeBb l).poly = s.poly := rfl
@[simp] theorem writeBb_mat (l : List Bool) : (s.writeBb l).mat = s.mat := rfl
@[simp] theorem writeBb_matValid (l : List Bool) : (s.writeBb l).matValid = s.matValid := rfl
@[simp] theorem writeBb_sel (l : List Bool) : (s.writeBb l).sel = s.sel := rfl
@[simp] theorem writeBb_pen (l : List Bool) : (s.writeBb l).pen = s.pen := rfl
@[simp] theorem writeBb_pending (l : List Bool) : (s.writeBb l).pending = s.pending := rfl
@[simp] theorem writeBb_readData (l : List Bool) : (s.writeBb l).readData = s.readData := rfl
@[simp] theorem writeBb_n (l : List Bool) : (s.writeBb l).n = s.n := rfl

/-! ### openSegment -/

@[simp] theorem openSegment_err : (s.openSegment).err = s.err := rfl
@[simp] theorem openSegment_errOpc : (s.openSegment).errOpc = s.errOpc := rfl
@[simp] theorem openSegment_result : (s.openSegment).result = s.result := rfl
@[simp] theorem openSegment_version : (s.openSegment).version = s.version := rfl
@[simp] theorem openSegment_ecl : (s.openSegment).ecl = s.ecl := rfl
@[simp] theorem openSegment_cfgValid : (s.openSegment).cfgValid = s.cfgValid := rfl
@[simp] theorem openSegment_pay : (s.openSegment).pay = s.pay := rfl
@[simp] theorem openSegment_seg : (s.openSegment).seg = s.seg ++ [0] := rfl
@[simp] theorem openSegment_bb : (s.openSegment).bb = s.bb := rfl
@[simp] theorem openSegment_dc : (s.openSegment).dc = s.dc := rfl
@[simp] theorem openSegment_ec : (s.openSegment).ec = s.ec := rfl
@[simp] theorem openSegment_rsValid : (s.openSegment).rsValid = s.rsValid := rfl
@[simp] theorem openSegment_cw : (s.openSegment).cw = s.cw := rfl
@[simp] theorem openSegment_poly : (s.openSegment).poly = s.poly := rfl
@[simp] theorem openSegment_mat : (s.openSegment).mat = s.mat := rfl
@[simp] theorem openSegment_matValid : (s.openSegment).matValid = false := rfl
@[simp] theorem openSegment_sel : (s.openSegment).sel = s.sel := rfl
@[simp] theorem openSegment_pen : (s.openSegment).pen = s.pen := rfl
@[simp] theorem openSegment_pending : (s.openSegment).pending = s.pending := rfl
@[simp] theorem openSegment_readData : (s.openSegment).readData = s.readData := rfl
@[simp] theorem openSegment_n : (s.openSegment).n = s.n := rfl

/-! ### appendByte -/

@[simp] theorem appendByte_err (b : Byte) : (s.appendByte b).err = s.err := rfl
@[simp] theorem appendByte_errOpc (b : Byte) : (s.appendByte b).errOpc = s.errOpc := rfl
@[simp] theorem appendByte_result (b : Byte) : (s.appendByte b).result = s.result := rfl
@[simp] theorem appendByte_version (b : Byte) : (s.appendByte b).version = s.version := rfl
@[simp] theorem appendByte_ecl (b : Byte) : (s.appendByte b).ecl = s.ecl := rfl
@[simp] theorem appendByte_cfgValid (b : Byte) : (s.appendByte b).cfgValid = s.cfgValid := rfl
@[simp] theorem appendByte_pay (b : Byte) : (s.appendByte b).pay = s.pay ++ [b] := rfl
@[simp] theorem appendByte_seg (b : Byte) : (s.appendByte b).seg = s.seg.modify (s.seg.length - 1) (· + 1) := rfl
@[simp] theorem appendByte_bb (b : Byte) : (s.appendByte b).bb = s.bb := rfl
@[simp] theorem appendByte_dc (b : Byte) : (s.appendByte b).dc = s.dc := rfl
@[simp] theorem appendByte_ec (b : Byte) : (s.appendByte b).ec = s.ec := rfl
@[simp] theorem appendByte_rsValid (b : Byte) : (s.appendByte b).rsValid = s.rsValid := rfl
@[simp] theorem appendByte_cw (b : Byte) : (s.appendByte b).cw = s.cw := rfl
@[simp] theorem appendByte_poly (b : Byte) : (s.appendByte b).poly = s.poly := rfl
@[simp] theorem appendByte_mat (b : Byte) : (s.appendByte b).mat = s.mat := rfl
@[simp] theorem appendByte_matValid (b : Byte) : (s.appendByte b).matValid = false := rfl
@[simp] theorem appendByte_sel (b : Byte) : (s.appendByte b).sel = s.sel := rfl
@[simp] theorem appendByte_pen (b : Byte) : (s.appendByte b).pen = s.pen := rfl
@[simp] theorem appendByte_pending (b : Byte) : (s.appendByte b).pending = s.pending := rfl
@[simp] theorem appendByte_readData (b : Byte) : (s.appendByte b).readData = s.readData := rfl
@[simp] theorem appendByte_n (b : Byte) : (s.appendByte b).n = s.n := rfl

/-! ### setBlocks -/

@[simp] theorem setBlocks_err (d e : List (List Byte)) : (s.setBlocks d e).err = s.err := rfl
@[simp] theorem setBlocks_errOpc (d e : List (List Byte)) : (s.setBlocks d e).errOpc = s.errOpc := rfl
@[simp] theorem setBlocks_result (d e : List (List Byte)) : (s.setBlocks d e).result = s.result := rfl
@[simp] theorem setBlocks_version (d e : List (List Byte)) : (s.setBlocks d e).version = s.version := rfl
@[simp] theorem setBlocks_ecl (d e : List (List Byte)) : (s.setBlocks d e).ecl = s.ecl := rfl
@[simp] theorem setBlocks_cfgValid (d e : List (List Byte)) : (s.setBlocks d e).cfgValid = s.cfgValid := rfl
@[simp] theorem setBlocks_pay (d e : List (List Byte)) : (s.setBlocks d e).pay = s.pay := rfl
@[simp] theorem setBlocks_seg (d e : List (List Byte)) : (s.setBlocks d e).seg = s.seg := rfl
@[simp] theorem setBlocks_bb (d e : List (List Byte)) : (s.setBlocks d e).bb = s.bb := rfl
@[simp] theorem setBlocks_dc (d e : List (List Byte)) : (s.setBlocks d e).dc = d := rfl
@[simp] theorem setBlocks_ec (d e : List (List Byte)) : (s.setBlocks d e).ec = e := rfl
@[simp] theorem setBlocks_rsValid (d e : List (List Byte)) : (s.setBlocks d e).rsValid = true := rfl
@[simp] theorem setBlocks_cw (d e : List (List Byte)) : (s.setBlocks d e).cw = s.cw := rfl
@[simp] theorem setBlocks_poly (d e : List (List Byte)) : (s.setBlocks d e).poly = s.poly := rfl
@[simp] theorem setBlocks_mat (d e : List (List Byte)) : (s.setBlocks d e).mat = s.mat := rfl
@[simp] theorem setBlocks_matValid (d e : List (List Byte)) : (s.setBlocks d e).matValid = s.matValid := rfl
@[simp] theorem setBlocks_sel (d e : List (List Byte)) : (s.setBlocks d e).sel = s.sel := rfl
@[simp] theorem setBlocks_pen (d e : List (List Byte)) : (s.setBlocks d e).pen = s.pen := rfl
@[simp] theorem setBlocks_pending (d e : List (List Byte)) : (s.setBlocks d e).pending = s.pending := rfl
@[simp] theorem setBlocks_readData (d e : List (List Byte)) : (s.setBlocks d e).readData = s.readData := rfl
@[simp] theorem setBlocks_n (d e : List (List Byte)) : (s.setBlocks d e).n = s.n := rfl

/-! ### setCw -/

@[simp] theorem setCw_err (l : List Byte) : (s.setCw l).err = s.err := rfl
@[simp] theorem setCw_errOpc (l : List Byte) : (s.setCw l).errOpc = s.errOpc := rfl
@[simp] theorem setCw_result (l : List Byte) : (s.setCw l).result = s.result := rfl
@[simp] theorem setCw_version (l : List Byte) : (s.setCw l).version = s.version := rfl
@[simp] theorem setCw_ecl (l : List Byte) : (s.setCw l).ecl = s.ecl := rfl
@[simp] theorem setCw_cfgValid (l : List Byte) : (s.setCw l).cfgValid = s.cfgValid := rfl
@[simp] theorem setCw_pay (l : List Byte) : (s.setCw l).pay = s.pay := rfl
@[simp] theorem setCw_seg (l : List Byte) : (s.setCw l).seg = s.seg := rfl
@[simp] theorem setCw_bb (l : List Byte) : (s.setCw l).bb = s.bb := rfl
@[simp] theorem setCw_dc (l : List Byte) : (s.setCw l).dc = s.dc := rfl
@[simp] theorem setCw_ec (l : List Byte) : (s.setCw l).ec = s.ec := rfl
@[simp] theorem setCw_rsValid (l : List Byte) : (s.setCw l).rsValid = s.rsValid := rfl
@[simp] theorem setCw_cw (l : List Byte) : (s.setCw l).cw = l := rfl
@[simp] theorem setCw_poly (l : List Byte) : (s.setCw l).poly = s.poly := rfl
@[simp] theorem setCw_mat (l : List Byte) : (s.setCw l).mat = s.mat := rfl
@[simp] theorem setCw_matValid (l : List Byte) : (s.setCw l).matValid = s.matValid := rfl
@[simp] theorem setCw_sel (l : List Byte) : (s.setCw l).sel = s.sel := rfl
@[simp] theorem setCw_pen (l : List Byte) : (s.setCw l).pen = s.pen := rfl
@[simp] theorem setCw_pending (l : List Byte) : (s.setCw l).pending = s.pending := rfl
@[simp] theorem setCw_readData (l : List Byte) : (s.setCw l).readData = s.readData := rfl
@[simp] theorem setCw_n (l : List Byte) : (s.setCw l).n = s.n := rfl

/-! ### writeMat -/

@[simp] theorem writeMat_err (m : Mat) : (s.writeMat m).err = s.err := rfl
@[simp] theorem writeMat_errOpc (m : Mat) : (s.writeMat m).errOpc = s.errOpc := rfl
@[simp] theorem writeMat_result (m : Mat) : (s.writeMat m).result = s.result := rfl
@[simp] theorem writeMat_version (m : Mat) : (s.writeMat m).version = s.version := rfl
@[simp] theorem writeMat_ecl (m : Mat) : (s.writeMat m).ecl = s.ecl := rfl
@[simp] theorem writeMat_cfgValid (m : Mat) : (s.writeMat m).cfgValid = s.cfgValid := rfl
@[simp] theorem writeMat_pay (m : Mat) : (s.writeMat m).pay = s.pay := rfl
@[simp] theorem writeMat_seg (m : Mat) : (s.writeMat m).seg = s.seg := rfl
@[simp] theorem writeMat_bb (m : Mat) : (s.writeMat m).bb = s.bb := rfl
@[simp] theorem writeMat_dc (m : Mat) : (s.writeMat m).dc = s.dc := rfl
@[simp] theorem writeMat_ec (m : Mat) : (s.writeMat m).ec = s.ec := rfl
@[simp] theorem writeMat_rsValid (m : Mat) : (s.writeMat m).rsValid = s.rsValid := rfl
@[simp] theorem writeMat_cw (m : Mat) : (s.writeMat m).cw = s.cw := rfl
@[simp] theorem writeMat_poly (m : Mat) : (s.writeMat m).poly = s.poly := rfl
@[simp] theorem writeMat_mat (m : Mat) : (s.writeMat m).mat = m := rfl
@[simp] theorem writeMat_matValid (m : Mat) : (s.writeMat m).matValid = false := rfl
@[simp] theorem writeMat_sel (m : Mat) : (s.writeMat m).sel = s.sel := rfl
@[simp] theorem writeMat_pen (m : Mat) : (s.writeMat m).pen = s.pen := rfl
@[simp] theorem writeMat_pending (m : Mat) : (s.writeMat m).pending = s.pending := rfl
@[simp] theorem writeMat_readData (m : Mat) : (s.writeMat m).readData = s.readData := rfl
@[simp] theorem writeMat_n (m : Mat) : (s.writeMat m).n = s.n := rfl

/-! ### setPen -/

@[simp] theorem setPen_err (i : Nat) (p : Penalty) : (s.setPen i p).err = s.err := rfl
@[simp] theorem setPen_errOpc (i : Nat) (p : Penalty) : (s.setPen i p).errOpc = s.errOpc := rfl
@[simp] theorem setPen_result (i : Nat) (p : Penalty) : (s.setPen i p).result = s.result := rfl
@[simp] theorem setPen_version (i : Nat) (p : Penalty) : (s.setPen i p).version = s.version := rfl
@[simp] theorem setPen_ecl (i : Nat) (p : Penalty) : (s.setPen i p).ecl = s.ecl := rfl
@[simp] theorem setPen_cfgValid (i : Nat) (p : Penalty) : (s.setPen i p).cfgValid = s.cfgValid := rfl
@[simp] theorem setPen_pay (i : Nat) (p : Penalty) : (s.setPen i p).pay = s.pay := rfl
@[simp] theorem setPen_seg (i : Nat) (p : Penalty) : (s.setPen i p).seg = s.seg := rfl
@[simp] theorem setPen_bb (i : Nat) (p : Penalty) : (s.setPen i p).bb = s.bb := rfl
@[simp] theorem setPen_dc (i : Nat) (p : Penalty) : (s.setPen i p).dc = s.dc := rfl
@[simp] theorem setPen_ec (i : Nat) (p : Penalty) : (s.setPen i p).ec = s.ec := rfl
@[simp] theorem setPen_rsValid (i : Nat) (p : Penalty) : (s.setPen i p).rsValid = s.rsValid := rfl
@[simp] theorem setPen_cw (i : Nat) (p : Penalty) : (s.setPen i p).cw = s.cw := rfl
@[simp] theorem setPen_poly (i : Nat) (p : Penalty) : (s.setPen i p).poly = s.poly := rfl
@[simp] theorem setPen_mat (i : Nat) (p : Penalty) : (s.setPen i p).mat = s.mat := rfl
@[simp] theorem setPen_matValid (i : Nat) (p : Penalty) : (s.setPen i p).matValid = s.matValid := rfl
@[simp] theorem setPen_sel (i : Nat) (p : Penalty) : (s.setPen i p).sel = s.sel := rfl
@[simp] theorem setPen_pen (i : Nat) (p : Penalty) : (s.setPen i p).pen = s.pen.setIfInBounds i p := rfl
@[simp] theorem setPen_pending (i : Nat) (p : Penalty) : (s.setPen i p).pending = s.pending := rfl
@[simp] theorem setPen_readData (i : Nat) (p : Penalty) : (s.setPen i p).readData = s.readData := rfl
@[simp] theorem setPen_n (i : Nat) (p : Penalty) : (s.setPen i p).n = s.n := rfl

/-! ### clearMatValid -/

@[simp] theorem clearMatValid_err : (s.clearMatValid).err = s.err := rfl
@[simp] theorem clearMatValid_errOpc : (s.clearMatValid).errOpc = s.errOpc := rfl
@[simp] theorem clearMatValid_result : (s.clearMatValid).result = s.result := rfl
@[simp] theorem clearMatValid_version : (s.clearMatValid).version = s.version := rfl
@[simp] theorem clearMatValid_ecl : (s.clearMatValid).ecl = s.ecl := rfl
@[simp] theorem clearMatValid_cfgValid : (s.clearMatValid).cfgValid = s.cfgValid := rfl
@[simp] theorem clearMatValid_pay : (s.clearMatValid).pay = s.pay := rfl
@[simp] theorem clearMatValid_seg : (s.clearMatValid).seg = s.seg := rfl
@[simp] theorem clearMatValid_bb : (s.clearMatValid).bb = s.bb := rfl
@[simp] theorem clearMatValid_dc : (s.clearMatValid).dc = s.dc := rfl
@[simp] theorem clearMatValid_ec : (s.clearMatValid).ec = s.ec := rfl
@[simp] theorem clearMatValid_rsValid : (s.clearMatValid).rsValid = s.rsValid := rfl
@[simp] theorem clearMatValid_cw : (s.clearMatValid).cw = s.cw := rfl
@[simp] theorem clearMatValid_poly : (s.clearMatValid).poly = s.poly := rfl
@[simp] theorem clearMatValid_mat : (s.clearMatValid).mat = s.mat := rfl
@[simp] theorem clearMatValid_matValid : (s.clearMatValid).matValid = false := rfl
@[simp] theorem clearMatValid_sel : (s.clearMatValid).sel = s.sel := rfl
@[simp] theorem clearMatValid_pen : (s.clearMatValid).pen = s.pen := rfl
@[simp] theorem clearMatValid_pending : (s.clearMatValid).pending = s.pending := rfl
@[simp] theorem clearMatValid_readData : (s.clearMatValid).readData = s.readData := rfl
@[simp] theorem clearMatValid_n : (s.clearMatValid).n = s.n := rfl

/-! ### markMatValid -/

@[simp] theorem markMatValid_err : (s.markMatValid).err = s.err := rfl
@[simp] theorem markMatValid_errOpc : (s.markMatValid).errOpc = s.errOpc := rfl
@[simp] theorem markMatValid_result : (s.markMatValid).result = s.result := rfl
@[simp] theorem markMatValid_version : (s.markMatValid).version = s.version := rfl
@[simp] theorem markMatValid_ecl : (s.markMatValid).ecl = s.ecl := rfl
@[simp] theorem markMatValid_cfgValid : (s.markMatValid).cfgValid = s.cfgValid := rfl
@[simp] theorem markMatValid_pay : (s.markMatValid).pay = s.pay := rfl
@[simp] theorem markMatValid_seg : (s.markMatValid).seg = s.seg := rfl
@[simp] theorem markMatValid_bb : (s.markMatValid).bb = s.bb := rfl
@[simp] theorem markMatValid_dc : (s.markMatValid).dc = s.dc := rfl
@[simp] theorem markMatValid_ec : (s.markMatValid).ec = s.ec := rfl
@[simp] theorem markMatValid_rsValid : (s.markMatValid).rsValid = s.rsValid := rfl
@[simp] theorem markMatValid_cw : (s.markMatValid).cw = s.cw := rfl
@[simp] theorem markMatValid_poly : (s.markMatValid).poly = s.poly := rfl
@[simp] theorem markMatValid_mat : (s.markMatValid).mat = s.mat := rfl
@[simp] theorem markMatValid_matValid : (s.markMatValid).matValid = true := rfl
@[simp] theorem markMatValid_sel : (s.markMatValid).sel = s.sel := rfl
@[simp] theorem markMatValid_pen : (s.markMatValid).pen = s.pen := rfl
@[simp] theorem markMatValid_pending : (s.markMatValid).pending = s.pending := rfl
@[simp] theorem markMatValid_readData : (s.markMatValid).readData = s.readData := rfl
@[simp] theorem markMatValid_n : (s.markMatValid).n = s.n := rfl

/-! ### clearRsValid -/

@[simp] theorem clearRsValid_err : (s.clearRsValid).err = s.err := rfl
@[simp] theorem clearRsValid_errOpc : (s.clearRsValid).errOpc = s.errOpc := rfl
@[simp] theorem clearRsValid_result : (s.clearRsValid).result = s.result := rfl
@[simp] theorem clearRsValid_version : (s.clearRsValid).version = s.version := rfl
@[simp] theorem clearRsValid_ecl : (s.clearRsValid).ecl = s.ecl := rfl
@[simp] theorem clearRsValid_cfgValid : (s.clearRsValid).cfgValid = s.cfgValid := rfl
@[simp] theorem clearRsValid_pay : (s.clearRsValid).pay = s.pay := rfl
@[simp] theorem clearRsValid_seg : (s.clearRsValid).seg = s.seg := rfl
@[simp] theorem clearRsValid_bb : (s.clearRsValid).bb = s.bb := rfl
@[simp] theorem clearRsValid_dc : (s.clearRsValid).dc = s.dc := rfl
@[simp] theorem clearRsValid_ec : (s.clearRsValid).ec = s.ec := rfl
@[simp] theorem clearRsValid_rsValid : (s.clearRsValid).rsValid = false := rfl
@[simp] theorem clearRsValid_cw : (s.clearRsValid).cw = s.cw := rfl
@[simp] theorem clearRsValid_poly : (s.clearRsValid).poly = s.poly := rfl
@[simp] theorem clearRsValid_mat : (s.clearRsValid).mat = s.mat := rfl
@[simp] theorem clearRsValid_matValid : (s.clearRsValid).matValid = s.matValid := rfl
@[simp] theorem clearRsValid_sel : (s.clearRsValid).sel = s.sel := rfl
@[simp] theorem clearRsValid_pen : (s.clearRsValid).pen = s.pen := rfl
@[simp] theorem clearRsValid_pending : (s.clearRsValid).pending = s.pending := rfl
@[simp] theorem clearRsValid_readData : (s.clearRsValid).readData = s.readData := rfl
@[simp] theorem clearRsValid_n : (s.clearRsValid).n = s.n := rfl

/-! ### clearError -/

@[simp] theorem clearError_err : (s.clearError).err = 0 := rfl
@[simp] theorem clearError_errOpc : (s.clearError).errOpc = 0 := rfl
@[simp] theorem clearError_result : (s.clearError).result = s.result := rfl
@[simp] theorem clearError_version : (s.clearError).version = s.version := rfl
@[simp] theorem clearError_ecl : (s.clearError).ecl = s.ecl := rfl
@[simp] theorem clearError_cfgValid : (s.clearError).cfgValid = s.cfgValid := rfl
@[simp] theorem clearError_pay : (s.clearError).pay = s.pay := rfl
@[simp] theorem clearError_seg : (s.clearError).seg = s.seg := rfl
@[simp] theorem clearError_bb : (s.clearError).bb = s.bb := rfl
@[simp] theorem clearError_dc : (s.clearError).dc = s.dc := rfl
@[simp] theorem clearError_ec : (s.clearError).ec = s.ec := rfl
@[simp] theorem clearError_rsValid : (s.clearError).rsValid = s.rsValid := rfl
@[simp] theorem clearError_cw : (s.clearError).cw = s.cw := rfl
@[simp] theorem clearError_poly : (s.clearError).poly = s.poly := rfl
@[simp] theorem clearError_mat : (s.clearError).mat = s.mat := rfl
@[simp] theorem clearError_matValid : (s.clearError).matValid = s.matValid := rfl
@[simp] theorem clearError_sel : (s.clearError).sel = s.sel := rfl
@[simp] theorem clearError_pen : (s.clearError).pen = s.pen := rfl
@[simp] theorem clearError_pending : (s.clearError).pending = s.pending := rfl
@[simp] theorem clearError_readData : (s.clearError).readData = s.readData := rfl
@[simp] theorem clearError_n : (s.clearError).n = s.n := rfl

/-! ### configure -/

@[simp] theorem configure_err (v : BitVec 6) (l : BitVec 2) : (s.configure v l).err = s.err := rfl
@[simp] theorem configure_errOpc (v : BitVec 6) (l : BitVec 2) : (s.configure v l).errOpc = s.errOpc := rfl
@[simp] theorem configure_result (v : BitVec 6) (l : BitVec 2) : (s.configure v l).result = s.result := rfl
@[simp] theorem configure_version (v : BitVec 6) (l : BitVec 2) : (s.configure v l).version = v := rfl
@[simp] theorem configure_ecl (v : BitVec 6) (l : BitVec 2) : (s.configure v l).ecl = l := rfl
@[simp] theorem configure_cfgValid (v : BitVec 6) (l : BitVec 2) : (s.configure v l).cfgValid = true := rfl
@[simp] theorem configure_pay (v : BitVec 6) (l : BitVec 2) : (s.configure v l).pay = [] := rfl
@[simp] theorem configure_seg (v : BitVec 6) (l : BitVec 2) : (s.configure v l).seg = [] := rfl
@[simp] theorem configure_bb (v : BitVec 6) (l : BitVec 2) : (s.configure v l).bb = [] := rfl
@[simp] theorem configure_dc (v : BitVec 6) (l : BitVec 2) : (s.configure v l).dc = [] := rfl
@[simp] theorem configure_ec (v : BitVec 6) (l : BitVec 2) : (s.configure v l).ec = [] := rfl
@[simp] theorem configure_rsValid (v : BitVec 6) (l : BitVec 2) : (s.configure v l).rsValid = false := rfl
@[simp] theorem configure_cw (v : BitVec 6) (l : BitVec 2) : (s.configure v l).cw = [] := rfl
@[simp] theorem configure_poly (v : BitVec 6) (l : BitVec 2) : (s.configure v l).poly = s.poly := rfl
@[simp] theorem configure_mat (v : BitVec 6) (l : BitVec 2) : (s.configure v l).mat = clearMat (4 * v.toNat + 17) := rfl
@[simp] theorem configure_matValid (v : BitVec 6) (l : BitVec 2) : (s.configure v l).matValid = false := rfl
@[simp] theorem configure_sel (v : BitVec 6) (l : BitVec 2) : (s.configure v l).sel = 0 := rfl
@[simp] theorem configure_pen (v : BitVec 6) (l : BitVec 2) : (s.configure v l).pen = Vector.replicate 8 ⟨0, 0, 0, 0⟩ := rfl
@[simp] theorem configure_pending (v : BitVec 6) (l : BitVec 2) : (s.configure v l).pending = s.pending := rfl
@[simp] theorem configure_readData (v : BitVec 6) (l : BitVec 2) : (s.configure v l).readData = s.readData := rfl

/-! ### resetCore -/

@[simp] theorem resetCore_err : (s.resetCore).err = State.reset.err := rfl
@[simp] theorem resetCore_errOpc : (s.resetCore).errOpc = State.reset.errOpc := rfl
@[simp] theorem resetCore_result : (s.resetCore).result = State.reset.result := rfl
@[simp] theorem resetCore_version : (s.resetCore).version = State.reset.version := rfl
@[simp] theorem resetCore_ecl : (s.resetCore).ecl = State.reset.ecl := rfl
@[simp] theorem resetCore_cfgValid : (s.resetCore).cfgValid = State.reset.cfgValid := rfl
@[simp] theorem resetCore_pay : (s.resetCore).pay = State.reset.pay := rfl
@[simp] theorem resetCore_seg : (s.resetCore).seg = State.reset.seg := rfl
@[simp] theorem resetCore_bb : (s.resetCore).bb = State.reset.bb := rfl
@[simp] theorem resetCore_dc : (s.resetCore).dc = State.reset.dc := rfl
@[simp] theorem resetCore_ec : (s.resetCore).ec = State.reset.ec := rfl
@[simp] theorem resetCore_rsValid : (s.resetCore).rsValid = State.reset.rsValid := rfl
@[simp] theorem resetCore_cw : (s.resetCore).cw = State.reset.cw := rfl
@[simp] theorem resetCore_poly : (s.resetCore).poly = State.reset.poly := rfl
@[simp] theorem resetCore_mat : (s.resetCore).mat = State.reset.mat := rfl
@[simp] theorem resetCore_matValid : (s.resetCore).matValid = State.reset.matValid := rfl
@[simp] theorem resetCore_sel : (s.resetCore).sel = State.reset.sel := rfl
@[simp] theorem resetCore_pen : (s.resetCore).pen = State.reset.pen := rfl
@[simp] theorem resetCore_pending : (s.resetCore).pending = s.pending := rfl
@[simp] theorem resetCore_readData : (s.resetCore).readData = s.readData := rfl

/-! ### selectMask -/

@[simp] theorem selectMask_err : (s.selectMask).err = s.err := by simp only [State.selectMask]
@[simp] theorem selectMask_errOpc : (s.selectMask).errOpc = s.errOpc := by simp only [State.selectMask]
@[simp] theorem selectMask_result : (s.selectMask).result = zext32 s.chosenMask.val := by simp only [State.selectMask]
@[simp] theorem selectMask_version : (s.selectMask).version = s.version := by simp only [State.selectMask]
@[simp] theorem selectMask_ecl : (s.selectMask).ecl = s.ecl := by simp only [State.selectMask]
@[simp] theorem selectMask_cfgValid : (s.selectMask).cfgValid = s.cfgValid := by simp only [State.selectMask]
@[simp] theorem selectMask_pay : (s.selectMask).pay = s.pay := by simp only [State.selectMask]
@[simp] theorem selectMask_seg : (s.selectMask).seg = s.seg := by simp only [State.selectMask]
@[simp] theorem selectMask_bb : (s.selectMask).bb = s.bb := by simp only [State.selectMask]
@[simp] theorem selectMask_dc : (s.selectMask).dc = s.dc := by simp only [State.selectMask]
@[simp] theorem selectMask_ec : (s.selectMask).ec = s.ec := by simp only [State.selectMask]
@[simp] theorem selectMask_rsValid : (s.selectMask).rsValid = s.rsValid := by simp only [State.selectMask]
@[simp] theorem selectMask_cw : (s.selectMask).cw = s.cw := by simp only [State.selectMask]
@[simp] theorem selectMask_poly : (s.selectMask).poly = s.poly := by simp only [State.selectMask]
@[simp] theorem selectMask_mat : (s.selectMask).mat = buildMatrix s.version.toNat s.ecl s.cw s.chosenMask.val false := by simp only [State.selectMask]
@[simp] theorem selectMask_matValid : (s.selectMask).matValid = false := by simp only [State.selectMask]
@[simp] theorem selectMask_sel : (s.selectMask).sel = BitVec.ofFin s.chosenMask := by simp only [State.selectMask]
@[simp] theorem selectMask_pen : (s.selectMask).pen = trialPenalties s.version.toNat s.ecl s.cw := by simp only [State.selectMask]
@[simp] theorem selectMask_pending : (s.selectMask).pending = s.pending := by simp only [State.selectMask]
@[simp] theorem selectMask_readData : (s.selectMask).readData = s.readData := by simp only [State.selectMask]
@[simp] theorem selectMask_n : s.selectMask.n = s.n := by simp only [State.n, selectMask_version, selectMask_cfgValid]

/-! ### pushCommand -/

@[simp] theorem pushCommand_err (w : Word) : (s.pushCommand w).err = s.err := rfl
@[simp] theorem pushCommand_errOpc (w : Word) : (s.pushCommand w).errOpc = s.errOpc := rfl
@[simp] theorem pushCommand_result (w : Word) : (s.pushCommand w).result = s.result := rfl
@[simp] theorem pushCommand_version (w : Word) : (s.pushCommand w).version = s.version := rfl
@[simp] theorem pushCommand_ecl (w : Word) : (s.pushCommand w).ecl = s.ecl := rfl
@[simp] theorem pushCommand_cfgValid (w : Word) : (s.pushCommand w).cfgValid = s.cfgValid := rfl
@[simp] theorem pushCommand_pay (w : Word) : (s.pushCommand w).pay = s.pay := rfl
@[simp] theorem pushCommand_seg (w : Word) : (s.pushCommand w).seg = s.seg := rfl
@[simp] theorem pushCommand_bb (w : Word) : (s.pushCommand w).bb = s.bb := rfl
@[simp] theorem pushCommand_dc (w : Word) : (s.pushCommand w).dc = s.dc := rfl
@[simp] theorem pushCommand_ec (w : Word) : (s.pushCommand w).ec = s.ec := rfl
@[simp] theorem pushCommand_rsValid (w : Word) : (s.pushCommand w).rsValid = s.rsValid := rfl
@[simp] theorem pushCommand_cw (w : Word) : (s.pushCommand w).cw = s.cw := rfl
@[simp] theorem pushCommand_poly (w : Word) : (s.pushCommand w).poly = s.poly := rfl
@[simp] theorem pushCommand_mat (w : Word) : (s.pushCommand w).mat = s.mat := rfl
@[simp] theorem pushCommand_matValid (w : Word) : (s.pushCommand w).matValid = s.matValid := rfl
@[simp] theorem pushCommand_sel (w : Word) : (s.pushCommand w).sel = s.sel := rfl
@[simp] theorem pushCommand_pen (w : Word) : (s.pushCommand w).pen = s.pen := rfl
@[simp] theorem pushCommand_pending (w : Word) : (s.pushCommand w).pending = .write 4 cmdOffset w :: s.pending := rfl
@[simp] theorem pushCommand_readData (w : Word) : (s.pushCommand w).readData = s.readData := rfl
@[simp] theorem pushCommand_n (w : Word) : (s.pushCommand w).n = s.n := rfl

/-! ### recordError -/

@[simp] theorem recordError_result (e : ErrKind) (opc : Byte) : (s.recordError e opc).result = s.result := by
  unfold State.recordError; split <;> rfl
@[simp] theorem recordError_version (e : ErrKind) (opc : Byte) : (s.recordError e opc).version = s.version := by
  unfold State.recordError; split <;> rfl
@[simp] theorem recordError_ecl (e : ErrKind) (opc : Byte) : (s.recordError e opc).ecl = s.ecl := by
  unfold State.recordError; split <;> rfl
@[simp] theorem recordError_cfgValid (e : ErrKind) (opc : Byte) : (s.recordError e opc).cfgValid = s.cfgValid := by
  unfold State.recordError; split <;> rfl
@[simp] theorem recordError_pay (e : ErrKind) (opc : Byte) : (s.recordError e opc).pay = s.pay := by
  unfold State.recordError; split <;> rfl
@[simp] theorem recordError_seg (e : ErrKind) (opc : Byte) : (s.recordError e opc).seg = s.seg := by
  unfold State.recordError; split <;> rfl
@[simp] theorem recordError_bb (e : ErrKind) (opc : Byte) : (s.recordError e opc).bb = s.bb := by
  unfold State.recordError; split <;> rfl
@[simp] theorem recordError_dc (e : ErrKind) (opc : Byte) : (s.recordError e opc).dc = s.dc := by
  unfold State.recordError; split <;> rfl
@[simp] theorem recordError_ec (e : ErrKind) (opc : Byte) : (s.recordError e opc).ec = s.ec := by
  unfold State.recordError; split <;> rfl
@[simp] theorem recordError_rsValid (e : ErrKind) (opc : Byte) : (s.recordError e opc).rsValid = s.rsValid := by
  unfold State.recordError; split <;> rfl
@[simp] theorem recordError_cw (e : ErrKind) (opc : Byte) : (s.recordError e opc).cw = s.cw := by
  unfold State.recordError; split <;> rfl
@[simp] theorem recordError_poly (e : ErrKind) (opc : Byte) : (s.recordError e opc).poly = s.poly := by
  unfold State.recordError; split <;> rfl
@[simp] theorem recordError_mat (e : ErrKind) (opc : Byte) : (s.recordError e opc).mat = s.mat := by
  unfold State.recordError; split <;> rfl
@[simp] theorem recordError_matValid (e : ErrKind) (opc : Byte) : (s.recordError e opc).matValid = s.matValid := by
  unfold State.recordError; split <;> rfl
@[simp] theorem recordError_sel (e : ErrKind) (opc : Byte) : (s.recordError e opc).sel = s.sel := by
  unfold State.recordError; split <;> rfl
@[simp] theorem recordError_pen (e : ErrKind) (opc : Byte) : (s.recordError e opc).pen = s.pen := by
  unfold State.recordError; split <;> rfl
@[simp] theorem recordError_pending (e : ErrKind) (opc : Byte) : (s.recordError e opc).pending = s.pending := by
  unfold State.recordError; split <;> rfl
@[simp] theorem recordError_readData (e : ErrKind) (opc : Byte) : (s.recordError e opc).readData = s.readData := by
  unfold State.recordError; split <;> rfl

@[simp] theorem recordError_n (e : ErrKind) (opc : Byte) : (s.recordError e opc).n = s.n := by
  simp [State.n]

/-- The first error is recorded (60_exceptions.md R316). -/
theorem recordError_of_ready (e : ErrKind) (opc : Byte) (h : s.err = 0) :
    s.recordError e opc = { s with err := e.code, errOpc := opc } := by
  simp [State.recordError, h]

/-- A later error is not (60_exceptions.md R313). -/
theorem recordError_of_error (e : ErrKind) (opc : Byte) (h : s.err ≠ 0) : s.recordError e opc = s := by
  rw [State.recordError, if_pos h]

end Sys2Proof.Machine
end

