-- ==== Sys2Proof/Laws/Ops.lean ====
section
/-! SUPPORT. What the shared operations can do: the checks, and the run of one command. -/

namespace Sys2Proof.Machine

/-! ## Checks -/

theorem require_of_true {α : Type} {c : Prop} [Decidable c] (h : c) (e : ErrKind) (k : Except ErrKind α) :
    require c e k = k := if_pos h

theorem require_of_false {α : Type} {c : Prop} [Decidable c] (h : ¬c) (e : ErrKind) (k : Except ErrKind α) :
    require c e k = .error e := if_neg h

/-- A check that lets the command succeed holds. -/
theorem require_eq_ok_iff {α : Type} {c : Prop} [Decidable c] {e : ErrKind} {k : Except ErrKind α} {a : α} :
    require c e k = .ok a ↔ c ∧ k = .ok a := by
  by_cases h : c <;> simp [require, h]

theorem requireSymbol_of_valid {s : State} (h : s.cfgValid = true) (k : Except ErrKind State) :
    requireSymbol s k = k := require_of_true h _ _

theorem requireSymbol_of_invalid {s : State} (h : s.cfgValid = false) (k : Except ErrKind State) :
    requireSymbol s k = .error .sequenceError := require_of_false (by simp [h]) _ _

theorem requireSymbol_eq_ok_iff {s t : State} {k : Except ErrKind State} :
    requireSymbol s k = .ok t ↔ s.cfgValid = true ∧ k = .ok t := require_eq_ok_iff

/-! ## One command -/

/-- A rule that succeeds while no error is recorded. -/
theorem runCommand_of_ok {opc : Byte} {body : State → Except ErrKind State} {s t : State} (h : s.err = 0)
    (hb : body s = .ok t) : runCommand opc body s = .next t := by
  simp [runCommand, h, hb]

/-- A rule that fails while no error is recorded. -/
theorem runCommand_of_error {opc : Byte} {body : State → Except ErrKind State} {s : State} {e : ErrKind}
    (h : s.err = 0) (hb : body s = .error e) :
    runCommand opc body s = .next { s with err := e.code, errOpc := opc } := by
  simp [runCommand, h, hb, State.recordError]

/-- A discarded command. -/
theorem runCommand_of_discard {opc : Byte} {body : State → Except ErrKind State} {s : State} (h : s.err ≠ 0)
    (ho : executesInError opc = false) : runCommand opc body s = .next s := if_pos ⟨h, ho⟩

/-- A rule that succeeds, of an opcode that is never discarded. -/
theorem runCommand_of_executes {opc : Byte} {body : State → Except ErrKind State} {s t : State}
    (ho : executesInError opc = true) (hb : body s = .ok t) : runCommand opc body s = .next t := by
  simp [runCommand, ho, hb]

/-- Everything a command can do: it is discarded, it does what its rule does, or it fails. -/
theorem runCommand_cases {opc : Byte} {body : State → Except ErrKind State} {s t : State}
    (h : runCommand opc body s = .next t) :
    (t = s ∧ s.err ≠ 0) ∨ body s = .ok t ∨
      ∃ e, body s = .error e ∧ s.err = 0 ∧ t = { s with err := e.code, errOpc := opc } := by
  unfold runCommand at h
  split at h
  · cases h; exact .inl ⟨rfl, ‹_ ∧ _›.1⟩
  · split at h
    · cases h; exact .inr (.inl ‹_›)
    · cases h
      by_cases he : s.err = 0
      · exact .inr (.inr ⟨_, ‹_›, he, recordError_of_ready s _ opc he⟩)
      · exact .inl ⟨recordError_of_error s _ opc he, he⟩

/-- A command always has a next state (30_encoding.md R100). -/
theorem runCommand_next (opc : Byte) (body : State → Except ErrKind State) (s : State) :
    ∃ t, runCommand opc body s = .next t := by
  unfold runCommand
  split
  · exact ⟨_, rfl⟩
  · split <;> exact ⟨_, rfl⟩

/-- The codes of the error kinds are 1 to 7 (10_state.md R25). -/
theorem errKind_code_bounds (e : ErrKind) : 1 ≤ e.code.toNat ∧ e.code.toNat ≤ 7 := by cases e <;> decide

/-! ## Polynomial registers -/

@[simp] theorem getPoly_setPoly (s : State) (r : PReg) (l : List Byte) : (s.setPoly r l).getPoly r = l := by
  simp [State.getPoly]

@[simp] theorem getPoly_setPoly_ne (s : State) {r r' : PReg} (l : List Byte) (h : r ≠ r') :
    (s.setPoly r l).getPoly r' = s.getPoly r' := by
  have : (r : Nat) ≠ (r' : Nat) := fun e => h (Fin.ext e)
  simp [State.getPoly, this]

/-- A register write and what every register then reads. -/
theorem getPoly_setPoly_cases (s : State) (r r' : PReg) (l : List Byte) :
    (s.setPoly r l).getPoly r' = if r = r' then l else s.getPoly r' := by
  by_cases h : r = r'
  · subst h; simp
  · simp [h]

end Sys2Proof.Machine
end

