-- ==== Sys2Proof/Laws/Memory.lean ====
section
/-! SUPPORT. The internal memories: the shape of the matrix, the lengths of the lists, and every memory operation keeps
`Memory.wf`. -/

namespace Sys2Proof.Machine

/-! ## Matrix cells -/

/-- An `n × n` matrix. -/
abbrev squareMat (n : Nat) (m : Mat) : Prop := m.length = n ∧ ∀ row ∈ m, row.length = n

theorem squareMat_clearMat (n : Nat) : squareMat n (clearMat n) := by
  refine ⟨by simp [clearMat], fun row h => ?_⟩
  rw [List.eq_of_mem_replicate h, List.length_replicate]

theorem squareMat_setCell {n : Nat} {m : Mat} (h : squareMat n m) (r c : Nat) (v : Cell) :
    squareMat n (setCell m r c v) := by
  refine ⟨by simp [setCell, h.1], fun row hr => ?_⟩
  obtain ⟨k, hk, rfl⟩ := List.mem_iff_getElem.mp hr
  have hk' : k < m.length := by simpa [setCell] using hk
  have hlen := h.2 _ (List.getElem_mem hk')
  simp only [setCell, List.getElem_modify]
  split <;> simp [hlen]

theorem squareMat_setu {n : Nat} {m : Mat} (h : squareMat n m) (r c : Nat) (v : Cell) : squareMat n (setu m r c v) := by
  unfold setu; split
  · exact squareMat_setCell h r c v
  · exact h

theorem squareMat_place {n : Nat} {m : Mat} (h : squareMat n m) (ws : List CellWrite) : squareMat n (place m ws) := by
  induction ws generalizing m with
  | nil => exact h
  | cons w ws ih => exact ih (squareMat_setu h _ _ _)

theorem squareMat_alignAll {n : Nat} {m : Mat} (h : squareMat n m) (v : Nat) : squareMat n (alignAll v m) := by
  unfold alignAll
  generalize (alignPos v).flatMap (fun r => (alignPos v).map fun c => (r, c)) = ps
  induction ps generalizing m with
  | nil => exact h
  | cons p ps ih =>
    refine ih ?_
    unfold alignAt; split
    · exact squareMat_place h _
    · exact h

theorem squareMat_placeData {n k : Nat} {m : Mat} (h : squareMat n m) (cw : List Byte) (mask : Nat) :
    squareMat n (placeData k cw mask m) := by
  unfold placeData
  generalize codewordBits cw = bits
  generalize zigzag k = ps
  induction ps generalizing m bits with
  | nil => exact h
  | cons p ps ih =>
    rw [List.foldl_cons]
    unfold placeBit; split
    · exact ih (squareMat_setCell h _ _ _) _
    · exact ih h _

theorem squareMat_buildMatrix (v : Nat) (ecl : BitVec 2) (cw : List Byte) (mask : Nat) (trial : Bool) :
    squareMat (4 * v + 17) (buildMatrix v ecl cw mask trial) := by
  unfold buildMatrix
  exact squareMat_placeData (squareMat_place (squareMat_place (squareMat_place (squareMat_alignAll
    (squareMat_place (squareMat_clearMat _) _) _) _) _) _) _ _

/-- Read after write of one cell. -/
theorem getCell_setCell_self {n : Nat} {m : Mat} (h : squareMat n m) {r c : Nat} (hr : r < n) (hc : c < n) (v : Cell) :
    getCell (setCell m r c v) r c = v := by
  have hr' : r < m.length := h.1 ▸ hr
  have hc' : c < m[r].length := by rw [h.2 _ (List.getElem_mem hr')]; exact hc
  simp [getCell, setCell, hr', hc']

/-- A write of one cell leaves every other cell. -/
theorem getCell_setCell_ne (m : Mat) {r c r' c' : Nat} (hne : (r, c) ≠ (r', c')) (v : Cell) :
    getCell (setCell m r c v) r' c' = getCell m r' c' := by
  unfold getCell setCell
  rw [List.getElem?_modify]
  by_cases hr : r = r'
  · subst hr
    have hc : c ≠ c' := fun e => hne (by rw [e])
    cases m[r]? <;> simp [hc]
  · cases m[r']? <;> simp [hr]

/-- A `setu` changes its own cell alone, and that only where it is unset (45_matrix.md R231). -/
theorem getCell_setu {n : Nat} {m : Mat} (h : squareMat n m) {r c : Nat} (hr : r < n) (hc : c < n) (v : Cell)
    (r' c' : Nat) :
    getCell (setu m r c v) r' c' = if (r, c) = (r', c') ∧ getCell m r c = .unset then v else getCell m r' c' := by
  unfold setu
  by_cases hu : getCell m r c = .unset
  · by_cases he : (r, c) = (r', c')
    · obtain ⟨rfl, rfl⟩ := Prod.mk.inj he
      simp [hu, getCell_setCell_self h hr hc]
    · simp [hu, he, getCell_setCell_ne m he]
  · simp [hu]

/-! ## Bits -/

@[simp] theorem msbBits_length (v size : Nat) : (msbBits v size).length = size := by simp [msbBits]

theorem msbBits_getElem? (v size i : Nat) (h : i < size) : (msbBits v size)[i]? = some (v.testBit (size - 1 - i)) := by
  simp [msbBits, h]

theorem byteAligned_length (bb : List Bool) : (byteAligned bb).length = 8 * ((bb.length + 7) / 8) := by
  simp only [byteAligned, List.length_append, List.length_replicate]; omega

theorem padBytes_length (k : Nat) : (padBytes k).length = k := by
  induction k using padBytes.induct with
  | case1 => rfl
  | case2 => rfl
  | case3 k ih => simp [padBytes, ih]

theorem bitsOfBytes_length (l : List Byte) : (l.flatMap fun b => msbBits b.toNat 8).length = 8 * l.length := by
  induction l with
  | nil => rfl
  | cons b l ih => simp only [List.flatMap_cons, List.length_append, msbBits_length, ih, List.length_cons]; omega

theorem segmentBits_length (v : Nat) (seg : List Byte) : (segmentBits v seg).length = segBits v seg := by
  simp only [segmentBits, segBits, List.length_append, msbBits_length, bitsOfBytes_length]

theorem segmentStream_length (v : Nat) (segs : List (List Byte)) :
    (segs.flatMap (segmentBits v)).length = (segs.map (segBits v)).sum := by
  induction segs with
  | nil => rfl
  | cons s l ih => simp only [List.flatMap_cons, List.length_append, segmentBits_length, ih, List.map_cons, List.sum_cons]

/-- A data bitstream has exactly the symbol's capacity (44_encoder.md R191). -/
theorem assemble_length {v : Nat} {l : BitVec 2} {segs : List (List Byte)} {bb : List Bool}
    (h : assemble v l segs = .ok bb) : bb.length = 8 * totalDataCount v l := by
  obtain ⟨hfit, hbb⟩ := require_eq_ok_iff.mp h
  injection hbb with hbb
  have hlen := segmentStream_length v segs
  subst hbb
  simp only [padded, List.length_append, byteAligned_length, bitsOfBytes_length, padBytes_length]
  unfold withTerminator
  split
  · simp only [List.length_append, msbBits_length]; omega
  · omega

theorem totalDataCount_le (v : Nat) (l : BitVec 2) : totalDataCount v l ≤ 2956 := by
  by_cases hv : v < 41
  · have key : ∀ v : Fin 41, ∀ l : BitVec 2, totalDataCount v.val l ≤ 2956 := by decide +kernel
    exact key ⟨v, hv⟩ l
  · obtain ⟨k, rfl⟩ : ∃ k, v = k + 1 := ⟨v - 1, by omega⟩
    have : planTable[k]? = none := List.getElem?_eq_none (by
      have : planTable.length = 40 := by decide
      omega)
    simp [totalDataCount, plan, planRow, this]

theorem totalCodewords_le (v : Nat) (l : BitVec 2) : totalCodewords v l ≤ 3706 := by
  by_cases hv : v < 41
  · have key : ∀ v : Fin 41, ∀ l : BitVec 2, totalCodewords v.val l ≤ 3706 := by decide +kernel
    exact key ⟨v, hv⟩ l
  · obtain ⟨k, rfl⟩ : ∃ k, v = k + 1 := ⟨v - 1, by omega⟩
    have : planTable[k]? = none := List.getElem?_eq_none (by
      have : planTable.length = 40 := by decide
      omega)
    simp [totalCodewords, plan, planRow, this]

theorem plan_data_le_total (v : Nat) (l : BitVec 2) : ∀ b ∈ plan v l, b.1 ≤ b.2 := by
  by_cases hv : v < 41
  · have key : ∀ v : Fin 41, ∀ l : BitVec 2, ∀ b ∈ plan v.val l, b.1 ≤ b.2 := by decide +kernel
    exact key ⟨v, hv⟩ l
  · obtain ⟨k, rfl⟩ : ∃ k, v = k + 1 := ⟨v - 1, by omega⟩
    have : planTable[k]? = none := List.getElem?_eq_none (by
      have : planTable.length = 40 := by decide
      omega)
    simp [plan, planRow, this]

/-! ## Blocks and codewords -/

theorem rsBlock_length {d : List Byte} {e : Nat} {l : List Byte} (h : rsBlock d e = .ok l) : l.length = e := by
  unfold rsBlock at h
  cases hp : pmod (mkPoly d e) (gen e) with
  | error x => rw [hp] at h; cases h
  | ok rem => rw [hp] at h; cases h; simp

theorem codeBlocks_length {bb : List Bool} {offset : Nat} {bs : List Block} {ds es : List (List Byte)}
    (h : codeBlocks bb offset bs = .ok (ds, es)) (hle : ∀ b ∈ bs, b.1 ≤ b.2) :
    (ds.map List.length).sum + (es.map List.length).sum = (bs.map fun b => b.2).sum := by
  induction bs generalizing offset ds es with
  | nil => cases h; rfl
  | cons b bs ih =>
    obtain ⟨dc, tc⟩ := b
    unfold codeBlocks at h
    cases hr : rsBlock ((List.range dc).map fun i => byteAt bb (offset + i)) (tc - dc) with
    | error x => simp only [hr] at h; cases h
    | ok e =>
      cases hc : codeBlocks bb (offset + dc) bs with
      | error x => simp only [hr, hc] at h; cases h
      | ok p =>
        obtain ⟨ds', es'⟩ := p
        simp only [hr, hc] at h
        cases h
        have := ih hc fun b hb => hle b (List.mem_cons_of_mem _ hb)
        have hle' : dc ≤ tc := hle (dc, tc) List.mem_cons_self
        have hel := rsBlock_length hr
        simp only [List.map_cons, List.sum_cons, List.length_map, List.length_range, hel]
        omega

theorem foldl_max_ge (l : List Nat) (a : Nat) : a ≤ l.foldl max a ∧ ∀ x ∈ l, x ≤ l.foldl max a := by
  induction l generalizing a with
  | nil => simp
  | cons y l ih =>
    obtain ⟨h1, h2⟩ := ih (max a y)
    refine ⟨le_trans (le_max_left _ _) h1, fun x hx => ?_⟩
    rcases List.mem_cons.mp hx with rfl | hx
    · exact le_trans (le_max_right _ _) h1
    · exact h2 x hx

theorem sum_column_lengths (blocks : List (List Byte)) (k : Nat) :
    ((List.range k).flatMap fun i => blocks.filterMap (·[i]?)).length = (blocks.map fun d => min d.length k).sum := by
  induction k with
  | zero => simp
  | succ k ih =>
    rw [List.range_succ, List.flatMap_append, List.length_append, ih]
    simp only [List.flatMap_cons, List.flatMap_nil, List.append_nil]
    clear ih
    induction blocks with
    | nil => rfl
    | cons d ds ih =>
      simp only [List.map_cons, List.sum_cons]
      rw [List.filterMap_cons]
      by_cases h : k < d.length
      · simp only [List.getElem?_eq_getElem h, List.length_cons]; omega
      · simp only [List.getElem?_eq_none (Nat.le_of_not_lt h)]; omega

theorem columns_length (blocks : List (List Byte)) : (columns blocks).length = (blocks.map List.length).sum := by
  unfold columns
  rw [sum_column_lengths]
  have h := (foldl_max_ge (blocks.map List.length) 0).2
  generalize (blocks.map List.length).foldl max 0 = k at h
  have : blocks.map (fun d => min d.length k) = blocks.map List.length := List.map_congr_left fun d hd =>
    min_eq_left (h _ (List.mem_map_of_mem hd))
  rw [this]

theorem interleave_length (dc ec : List (List Byte)) :
    (interleave dc ec).length = (dc.map List.length).sum + (ec.map List.length).sum := by
  simp [interleave, columns_length]

/-! ## Polynomials -/

theorem mkPoly_length_le (l : List Byte) (k : Nat) : (mkPoly l k).length ≤ l.length + k := by
  have := (List.dropWhile_sublist (fun c : Byte => c == 0) (l := l)).length_le
  simp only [mkPoly, List.length_append, List.length_replicate]; omega

theorem convolve_length (a b : List Byte) (hb : b ≠ []) : (convolve a b).length = a.length + b.length - 1 := by
  have hb' : 1 ≤ b.length := List.length_pos_iff.mpr hb
  induction a with
  | nil => simp [convolve]
  | cons x xs ih => simp only [convolve, padd, List.length_zipWith, List.length_append, List.length_map,
      List.length_replicate, List.length_cons, ih]; omega

theorem pmul_length_le (a b : List Byte) : (pmul a b).length ≤ a.length + b.length - 1 := by
  unfold pmul
  split
  · simp
  · rename_i h
    have hb : b ≠ [] := fun e => h (.inr (by simp [e]))
    have := mkPoly_length_le (convolve a b) 0
    rw [convolve_length a b hb] at this
    exact this

theorem addLeading_length (a b : List Byte) : (addLeading a b).length = a.length := by
  induction a generalizing b with
  | nil => cases b <;> rfl
  | cons x xs ih => cases b with
    | nil => rfl
    | cons y ys => simp [addLeading, ih]

theorem pmodLoop_length_le {fuel : Nat} {a e r : List Byte} (h : pmodLoop fuel a e = .ok r) : r.length ≤ a.length := by
  induction fuel generalizing a with
  | zero => cases h; exact le_refl _
  | succ n ih =>
    unfold pmodLoop at h
    split at h
    · cases h; exact le_refl _
    · cases hx : glog (a.headD 0) with
      | error x => simp only [hx] at h; cases h
      | ok x =>
        cases hy : glog (e.headD 0) with
        | error y => simp only [hx, hy] at h; cases h
        | ok y =>
          simp only [hx, hy] at h
          exact (ih h).trans ((mkPoly_length_le _ 0).trans (by rw [addLeading_length, Nat.add_zero]))

/-- A remainder is never longer than the dividend (42_polynomial.md R136). -/
theorem pmod_length_le {a e r : List Byte} (h : pmod a e = .ok r) : r.length ≤ a.length :=
  pmodLoop_length_le (require_eq_ok_iff.mp h).2

theorem gen_length_le (n : Nat) : (gen n).length ≤ n + 1 := by
  unfold gen
  induction n with
  | zero => simp
  | succ n ih =>
    rw [List.range_succ, List.foldl_append]
    refine (pmul_length_le _ _).trans ?_
    simp only [List.length_cons, List.length_nil]
    omega

/-! ## Every memory operation keeps `Memory.wf` -/

theorem wf_reset : Memory.wf State.reset := by decide

section
variable {s : State} (h : Memory.wf s)
include h

theorem wf_setResult (v : Word) : Memory.wf (s.setResult v) := h

theorem wf_clearError : Memory.wf s.clearError := h

theorem wf_recordError (e : ErrKind) (opc : Byte) : Memory.wf (s.recordError e opc) := by
  unfold State.recordError; split <;> exact h

theorem wf_markMatValid : Memory.wf s.markMatValid := h

theorem wf_setPen (i : Nat) (p : Penalty) : Memory.wf (s.setPen i p) := h

omit h in
theorem wf_resetCore : Memory.wf s.resetCore := wf_reset

theorem wf_setPoly (r : PReg) {l : List Byte} (hl : l.length ≤ 512) : Memory.wf (s.setPoly r l) := by
  obtain ⟨h1, h2, h3, h4, h5, h6, h7, h8⟩ := h
  refine ⟨h1, h2, h3, h4, h5, h6, fun r' => ?_, h8⟩
  rw [getPoly_setPoly_cases]; split
  · exact hl
  · exact h7 r'

theorem wf_writeBb {l : List Bool} (hl : l.length ≤ 32768) : Memory.wf (s.writeBb l) := by
  obtain ⟨h1, h2, h3, -, h5, h6, h7, h8⟩ := h
  exact ⟨h1, h2, h3, hl, h5, h6, h7, h8⟩

theorem wf_openSegment (hl : s.seg.length < 2048) : Memory.wf s.openSegment := by
  obtain ⟨h1, h2, h3, h4, h5, h6, h7, h8⟩ := h
  exact ⟨h1, by simp; omega, by simpa using h3, h4, h5, h6, h7, h8⟩

omit h in
theorem sum_modify_last (l : List Nat) (hl : l ≠ []) : (l.modify (l.length - 1) (· + 1)).sum = l.sum + 1 := by
  induction l with
  | nil => exact absurd rfl hl
  | cons x l ih =>
    cases l with
    | nil => rfl
    | cons y l =>
      have := ih (List.cons_ne_nil _ _)
      simp only [List.length_cons, Nat.add_sub_cancel, List.modify_succ_cons, List.sum_cons] at this ⊢
      omega

theorem wf_appendByte (b : Byte) (hs : s.seg ≠ []) (hl : s.pay.length < 4096) : Memory.wf (s.appendByte b) := by
  obtain ⟨h1, h2, h3, h4, h5, h6, h7, h8⟩ := h
  refine ⟨by simp; omega, by simpa using h2, ?_, h4, h5, h6, h7, h8⟩
  simp only [appendByte_seg, appendByte_pay, List.length_append, List.length_singleton]
  rw [sum_modify_last _ hs, h3]

theorem wf_setBlocks {d e : List (List Byte)} (hl : (d.map List.length).sum + (e.map List.length).sum ≤ 3706) :
    Memory.wf (s.setBlocks d e) := by
  obtain ⟨h1, h2, h3, h4, -, h6, h7, h8⟩ := h
  exact ⟨h1, h2, h3, h4, hl, h6, h7, h8⟩

theorem wf_setCw {l : List Byte} (hl : l.length ≤ 3706) : Memory.wf (s.setCw l) := by
  obtain ⟨h1, h2, h3, h4, h5, -, h7, h8⟩ := h
  exact ⟨h1, h2, h3, h4, h5, hl, h7, h8⟩

theorem wf_writeMat {m : Mat} (hm : squareMat s.n m) : Memory.wf (s.writeMat m) := by
  obtain ⟨h1, h2, h3, h4, h5, h6, h7, -⟩ := h
  exact ⟨h1, h2, h3, h4, h5, h6, h7, hm⟩

theorem wf_selectMask (hv : s.cfgValid = true) : Memory.wf s.selectMask := by
  obtain ⟨h1, h2, h3, h4, h5, h6, h7, -⟩ := h
  have hn : s.n = 4 * s.version.toNat + 17 := if_pos hv
  have hsq : squareMat s.selectMask.n s.selectMask.mat := by
    rw [selectMask_n, selectMask_mat, hn]; exact squareMat_buildMatrix _ _ _ _ _
  exact ⟨by simpa using h1, by simpa using h2, by simpa using h3, by simpa using h4, by simpa using h5,
    by simpa using h6, by simpa [State.getPoly] using h7, hsq⟩

theorem wf_configure (v : BitVec 6) (l : BitVec 2) : Memory.wf (s.configure v l) := by
  refine ⟨?_, ?_, rfl, ?_, ?_, ?_, h.2.2.2.2.2.2.1, ?_⟩
  · simp
  · simp
  · simp
  · simp
  · simp
  · exact squareMat_clearMat (4 * v.toNat + 17)

end

end Sys2Proof.Machine
end

