-- ==== Sys2Proof/Laws/PerInstr.lean ====
section
/-! SUPPORT. The word of every command: its opcode byte above its operand bits, whose fields do not overlap (30_encoding.md
R81 to R89), one lemma per constructor. -/

namespace Sys2Proof.Laws

/-! ## The operand fields as numbers -/

theorem bitsB_toNat (b : Byte) : (bitsB b).toNat = b.toNat := by
  have := b.isLt
  simp only [bitsB, BitVec.toNat_setWidth]; omega

theorem bitsImm_toNat (imm : Half) : (bitsImm imm).toNat = imm.toNat := by
  have := imm.isLt
  simp only [bitsImm, BitVec.toNat_setWidth]; omega

/-- A field above `k` lower bits is added to them. -/
theorem or_toNat_of_lt {x y : Word} {k n : Nat} (hx : x.toNat = n * 2 ^ k) (hy : y.toNat < 2 ^ k) :
    (x ||| y).toNat = n * 2 ^ k + y.toNat := by
  rw [BitVec.toNat_or, hx, Nat.mul_comm, Nat.two_pow_add_eq_or_of_lt hy]

theorem shiftLeft_toNat {x : Word} {n k : Nat} (h : x.toNat = n) (hk : n * 2 ^ k < 2 ^ 32) :
    (x <<< k).toNat = n * 2 ^ k := by
  rw [BitVec.toNat_shiftLeft, h, Nat.shiftLeft_eq, Nat.mod_eq_of_lt hk]

theorem bitsAB_toNat (a b : Byte) : (bitsAB a b).toNat = a.toNat * 2 ^ 8 + b.toNat := by
  have ha := a.isLt
  have hb := b.isLt
  have hx : (a.setWidth 32 <<< 8 : Word).toNat = a.toNat * 2 ^ 8 :=
    shiftLeft_toNat (bitsB_toNat a) (by omega)
  rw [bitsAB, or_toNat_of_lt hx (by rw [show (b.setWidth 32).toNat = b.toNat from bitsB_toNat b]; omega),
    show (b.setWidth 32).toNat = b.toNat from bitsB_toNat b]

theorem bitsReg_toNat (r : PReg) (k : Nat) (hk : k ≤ 20) : (BitVec.ofNat 32 r.val <<< k).toNat = r.val * 2 ^ k := by
  have hr := r.isLt
  refine shiftLeft_toNat (by rw [BitVec.toNat_ofNat]; omega) ?_
  have : (2 : Nat) ^ k ≤ 2 ^ 20 := Nat.pow_le_pow_right (by decide) hk
  calc r.val * 2 ^ k ≤ 3 * 2 ^ 20 := Nat.mul_le_mul (by omega) this
    _ < 2 ^ 32 := by decide

theorem bitsPD_toNat (r : PReg) : (bitsPD r).toNat = r.val * 2 ^ 20 := bitsReg_toNat r 20 (by decide)

theorem bitsPA_toNat (r : PReg) : (bitsPA r).toNat = r.val * 2 ^ 18 := bitsReg_toNat r 18 (by decide)

theorem bitsPB_toNat (r : PReg) : (bitsPB r).toNat = r.val * 2 ^ 16 := bitsReg_toNat r 16 (by decide)

/-- A word whose operand bits stay below the opcode. -/
theorem encode_toNat {i : Instr} (h : i.operandBits.toNat < 2 ^ 24) :
    (encode i).toNat = i.opcode.toNat * 2 ^ 24 + i.operandBits.toNat :=
  or_toNat_of_lt (shiftLeft_toNat (bitsB_toNat i.opcode) (by have := i.opcode.isLt; omega)) h

/-! ## One lemma per constructor -/

namespace OpcodeOfWord

/-- The operand bits of `i` stay below its opcode, and its word is the opcode above them. -/
def Statement (i : Instr) : Prop :=
  i.operandBits.toNat < 2 ^ 24 ∧ (encode i).toNat = i.opcode.toNat * 2 ^ 24 + i.operandBits.toNat

theorem of_lt {i : Instr} (h : i.operandBits.toNat < 2 ^ 24) : Statement i := ⟨h, encode_toNat h⟩

theorem nop : Statement .nop :=
  of_lt (by decide)

theorem errClr : Statement .errClr :=
  of_lt (by decide)

theorem softReset : Statement .softReset :=
  of_lt (by decide)

theorem ident : Statement .ident :=
  of_lt (by decide)

theorem gfExp (imm : Half) : Statement (.gfExp imm) :=
  of_lt (by have := imm.isLt; rw [Instr.operandBits, bitsImm_toNat]; omega)

theorem gfLog (b : Byte) : Statement (.gfLog b) :=
  of_lt (by have := b.isLt; rw [Instr.operandBits, bitsB_toNat]; omega)

theorem gfMul (a b : Byte) : Statement (.gfMul a b) :=
  of_lt (by
    have := a.isLt
    have := b.isLt
    rw [Instr.operandBits, bitsAB_toNat]; omega)

theorem gfAdd (a b : Byte) : Statement (.gfAdd a b) :=
  of_lt (by
    have := a.isLt
    have := b.isLt
    rw [Instr.operandBits, bitsAB_toNat]; omega)

theorem bchFmt (b : Byte) : Statement (.bchFmt b) :=
  of_lt (by have := b.isLt; rw [Instr.operandBits, bitsB_toNat]; omega)

theorem bchVer (b : Byte) : Statement (.bchVer b) :=
  of_lt (by have := b.isLt; rw [Instr.operandBits, bitsB_toNat]; omega)

theorem pClr (pd : PReg) : Statement (.pClr pd) :=
  of_lt (by have := pd.isLt; rw [Instr.operandBits, bitsPD_toNat]; omega)

theorem pPush (pd : PReg) (imm : Half) : Statement (.pPush pd imm) :=
  of_lt (by
    have h1 := pd.isLt
    have h3 := imm.isLt
    rw [Instr.operandBits, or_toNat_of_lt (bitsPD_toNat pd) (by rw [bitsImm_toNat]; omega), bitsImm_toNat]; omega)

theorem pShift (pd pa : PReg) (imm : Half) : Statement (.pShift pd pa imm) :=
  of_lt (by
    have h1 := pd.isLt
    have h2 := pa.isLt
    have h3 := imm.isLt
    have hy : (bitsPD pd ||| bitsPA pa).toNat = pd.val * 2 ^ 20 + pa.val * 2 ^ 18 := by
      rw [or_toNat_of_lt (bitsPD_toNat pd) (by rw [bitsPA_toNat]; omega), bitsPA_toNat]
    rw [Instr.operandBits, or_toNat_of_lt (k := 16) (n := pd.val * 2 ^ 4 + pa.val * 2 ^ 2) (by rw [hy]; omega)
      (by rw [bitsImm_toNat]; exact h3), bitsImm_toNat]; omega)

theorem pMul (pd pa pb : PReg) : Statement (.pMul pd pa pb) :=
  of_lt (by
    have h1 := pd.isLt
    have h2 := pa.isLt
    have h3 := pb.isLt
    have hy : (bitsPD pd ||| bitsPA pa).toNat = pd.val * 2 ^ 20 + pa.val * 2 ^ 18 := by
      rw [or_toNat_of_lt (bitsPD_toNat pd) (by rw [bitsPA_toNat]; omega), bitsPA_toNat]
    rw [Instr.operandBits, or_toNat_of_lt (k := 18) (n := pd.val * 2 ^ 2 + pa.val) (by rw [hy]; omega)
      (by rw [bitsPB_toNat]; omega), bitsPB_toNat]; omega)

theorem pMod (pd pa pb : PReg) : Statement (.pMod pd pa pb) :=
  of_lt (by
    have h1 := pd.isLt
    have h2 := pa.isLt
    have h3 := pb.isLt
    have hy : (bitsPD pd ||| bitsPA pa).toNat = pd.val * 2 ^ 20 + pa.val * 2 ^ 18 := by
      rw [or_toNat_of_lt (bitsPD_toNat pd) (by rw [bitsPA_toNat]; omega), bitsPA_toNat]
    rw [Instr.operandBits, or_toNat_of_lt (k := 18) (n := pd.val * 2 ^ 2 + pa.val) (by rw [hy]; omega)
      (by rw [bitsPB_toNat]; omega), bitsPB_toNat]; omega)

theorem pGen (pd : PReg) (imm : Half) : Statement (.pGen pd imm) :=
  of_lt (by
    have h1 := pd.isLt
    have h3 := imm.isLt
    rw [Instr.operandBits, or_toNat_of_lt (bitsPD_toNat pd) (by rw [bitsImm_toNat]; omega), bitsImm_toNat]; omega)

theorem pLen (pa : PReg) : Statement (.pLen pa) :=
  of_lt (by have := pa.isLt; rw [Instr.operandBits, bitsPA_toNat]; omega)

theorem pGet (pa : PReg) (imm : Half) : Statement (.pGet pa imm) :=
  of_lt (by
    have h1 := pa.isLt
    have h3 := imm.isLt
    rw [Instr.operandBits, or_toNat_of_lt (bitsPA_toNat pa) (by rw [bitsImm_toNat]; omega), bitsImm_toNat]; omega)

theorem bbClr : Statement .bbClr :=
  of_lt (by decide)

theorem bbPut (size : BitVec 5) (val : Half) : Statement (.bbPut size val) :=
  of_lt (by
    have h := size.isLt
    have hv := val.isLt
    have hx : (size.setWidth 32 <<< 16 : Word).toNat = size.toNat * 2 ^ 16 :=
      shiftLeft_toNat (by simp only [BitVec.toNat_setWidth]; omega) (by omega)
    rw [Instr.operandBits, or_toNat_of_lt hx (by rw [bitsImm_toNat]; exact hv), bitsImm_toNat]; omega)

theorem bbPutBit (b : Byte) : Statement (.bbPutBit b) :=
  of_lt (by have := b.isLt; rw [Instr.operandBits, bitsB_toNat]; omega)

theorem bbGet (imm : Half) : Statement (.bbGet imm) :=
  of_lt (by have := imm.isLt; rw [Instr.operandBits, bitsImm_toNat]; omega)

theorem bbGetByte (imm : Half) : Statement (.bbGetByte imm) :=
  of_lt (by have := imm.isLt; rw [Instr.operandBits, bitsImm_toNat]; omega)

theorem bbLen : Statement .bbLen :=
  of_lt (by decide)

theorem symCfg (a b : Byte) : Statement (.symCfg a b) :=
  of_lt (by
    have := a.isLt
    have := b.isLt
    rw [Instr.operandBits, bitsAB_toNat]; omega)

theorem segBegin : Statement .segBegin :=
  of_lt (by decide)

theorem segByte (b : Byte) : Statement (.segByte b) :=
  of_lt (by have := b.isLt; rw [Instr.operandBits, bitsB_toNat]; omega)

theorem encData : Statement .encData :=
  of_lt (by decide)

theorem encRs : Statement .encRs :=
  of_lt (by decide)

theorem encIlv : Statement .encIlv :=
  of_lt (by decide)

theorem cwLen : Statement .cwLen :=
  of_lt (by decide)

theorem cwGet (imm : Half) : Statement (.cwGet imm) :=
  of_lt (by have := imm.isLt; rw [Instr.operandBits, bitsImm_toNat]; omega)

theorem planCnt : Statement .planCnt :=
  of_lt (by decide)

theorem planGet (imm : Half) : Statement (.planGet imm) :=
  of_lt (by have := imm.isLt; rw [Instr.operandBits, bitsImm_toNat]; omega)

theorem mxClr : Statement .mxClr :=
  of_lt (by decide)

theorem mxFinder : Statement .mxFinder :=
  of_lt (by decide)

theorem mxAlign : Statement .mxAlign :=
  of_lt (by decide)

theorem mxTiming : Statement .mxTiming :=
  of_lt (by decide)

theorem mxFormat (a b : Byte) : Statement (.mxFormat a b) :=
  of_lt (by
    have := a.isLt
    have := b.isLt
    rw [Instr.operandBits, bitsAB_toNat]; omega)

theorem mxVersion (b : Byte) : Statement (.mxVersion b) :=
  of_lt (by have := b.isLt; rw [Instr.operandBits, bitsB_toNat]; omega)

theorem mxData (b : Byte) : Statement (.mxData b) :=
  of_lt (by have := b.isLt; rw [Instr.operandBits, bitsB_toNat]; omega)

theorem mxBuild (a b : Byte) : Statement (.mxBuild a b) :=
  of_lt (by
    have := a.isLt
    have := b.isLt
    rw [Instr.operandBits, bitsAB_toNat]; omega)

theorem mxRd (a b : Byte) : Statement (.mxRd a b) :=
  of_lt (by
    have := a.isLt
    have := b.isLt
    rw [Instr.operandBits, bitsAB_toNat]; omega)

theorem msScore (b : Byte) : Statement (.msScore b) :=
  of_lt (by have := b.isLt; rw [Instr.operandBits, bitsB_toNat]; omega)

theorem msSelect : Statement .msSelect :=
  of_lt (by decide)

theorem penGet (a b : Byte) : Statement (.penGet a b) :=
  of_lt (by
    have := a.isLt
    have := b.isLt
    rw [Instr.operandBits, bitsAB_toNat]; omega)

theorem build : Statement .build :=
  of_lt (by decide)

theorem rdCount : Statement .rdCount :=
  of_lt (by decide)

theorem rdDark (a b : Byte) : Statement (.rdDark a b) :=
  of_lt (by
    have := a.isLt
    have := b.isLt
    rw [Instr.operandBits, bitsAB_toNat]; omega)

theorem rdMask : Statement .rdMask :=
  of_lt (by decide)

theorem rdCfg : Statement .rdCfg :=
  of_lt (by decide)

end OpcodeOfWord

end Sys2Proof.Laws
end

