-- ==== Sys2Proof/Laws/Step.lean ====
section
/-! SUPPORT. What a step and a command can do. -/

namespace Sys2Proof.Machine

/-- Every command is the run of one rule under the command's opcode byte. -/
theorem exec_eq_runCommand (i : Instr) : ∃ body, ∀ s, exec i s = runCommand i.opcode body s := by
  cases i <;> first | exact ⟨_, fun _ => rfl⟩ | exact ⟨fun s => .ok _, fun _ => rfl⟩

/-- Every command has a next state. -/
theorem exec_next (i : Instr) (s : State) : ∃ t, exec i s = .next t := by
  obtain ⟨body, h⟩ := exec_eq_runCommand i
  rw [h]; exact runCommand_next _ _ _

/-- Every word is the run of one rule under its opcode byte, or of a rule that fails. -/
theorem runWord_of_legal {w : Word} {i : Instr} (h : decode w = .ok i) (s : State) : runWord w s = exec i s := by
  simp [runWord, h]

theorem runWord_of_illegal {w : Word} {r : IllegalReason} (h : decode w = .error r) (s : State) :
    runWord w s = runCommand (opcodeField w) (fun _ => .error .illegalCommand) s := by
  simp [runWord, h]

theorem step_of_idle {s : State} (h : s.pending = []) : step s = .next s := by
  simp [step, h]

theorem step_of_pending {s : State} {e : BusEvent} {rest : List BusEvent} (h : s.pending = e :: rest) :
    step s = busEvent e { s with pending := rest } := by
  simp [step, h]

/-- The write of a word to CMD runs that word. -/
theorem step_of_command {s : State} {w : Word} {rest : List BusEvent} (h : s.pending = .write 4 0x00 w :: rest) :
    step s = runWord w { s with pending := rest } := by
  rw [step_of_pending h]; rfl

/-- The command word a table row's bits are stored as is the next one a step runs. -/
theorem step_withFetchWord (s : State) (nbits w : Nat) :
    step (s.withFetchWord nbits w) = runWord (BitVec.ofNat 32 (w % 2 ^ nbits)) s := rfl

end Sys2Proof.Machine
end

