-- ==== Sys2Proof/Tests/Slice0.lean ====
section
/-! SUPPORT. The model's own tests: the refusals of WellFormed, the word of every command, small steps with the results
of the spec's examples and of 95_test_vectors.md, and for every statement states that meet its hypotheses. -/

namespace Sys2Proof.Tests

open Sys2Proof Sys2Proof.Machine

/-! ## WellFormed refuses an ill-formed command, one for each range of 30_encoding.md R90 (c) -/

theorem test_refuses_bb_put_size_17 : (Instr.bbPut 17 0).wellFormed = false := by decide
theorem test_refuses_bb_putbit_2 : (Instr.bbPutBit 2).wellFormed = false := by decide
theorem test_refuses_bch_fmt_0x20 : (Instr.bchFmt 0x20).wellFormed = false := by decide
theorem test_refuses_bch_ver_0x40 : (Instr.bchVer 0x40).wellFormed = false := by decide
theorem test_refuses_p_push_0x100 : (Instr.pPush 0 0x100).wellFormed = false := by decide
theorem test_refuses_mx_format_trial_2 : (Instr.mxFormat 0 2).wellFormed = false := by decide
theorem test_refuses_mx_version_trial_2 : (Instr.mxVersion 2).wellFormed = false := by decide
theorem test_refuses_mx_build_trial_2 : (Instr.mxBuild 0 2).wellFormed = false := by decide
theorem test_refuses_pen_get_part_4 : (Instr.penGet 0 4).wellFormed = false := by decide
theorem test_accepts_range_ends : ([.bbPut 16 0xFFFF, .bbPutBit 1, .bchFmt 0x1F, .bchVer 0x3F, .pPush 3 0xFF,
    .mxFormat 0xFF 1, .mxVersion 1, .mxBuild 0xFF 1, .penGet 0xFF 3] : List Instr).all Instr.wellFormed = true := by
  decide

/-! ## The word of every command, written out from 30_encoding.md R82 to R89: opcode, zeros, fields -/

theorem test_decode_nop : decode 0b00000000000000000000000000000000 = .ok .nop := by decide
theorem test_decode_err_clr : decode 0b00000001000000000000000000000000 = .ok .errClr := by decide
theorem test_decode_soft_reset : decode 0x02000000 = .ok .softReset := by decide
theorem test_decode_id : decode 0x03000000 = .ok .ident := by decide
theorem test_decode_gf_exp : decode 0b00010000000000001111111111111111 = .ok (.gfExp 0xFFFF) := by decide
theorem test_decode_gf_log : decode 0x1100001D = .ok (.gfLog 0x1D) := by decide
theorem test_decode_gf_mul : decode 0b00010010000000000000001010000000 = .ok (.gfMul 0x02 0x80) := by decide
theorem test_decode_gf_add : decode 0x130053CA = .ok (.gfAdd 0x53 0xCA) := by decide
theorem test_decode_bch_fmt : decode 0x1400000B = .ok (.bchFmt 0x0B) := by decide
theorem test_decode_bch_ver : decode 0x15000007 = .ok (.bchVer 0x07) := by decide
theorem test_decode_p_clr : decode 0x20100000 = .ok (.pClr 1) := by decide
theorem test_decode_p_push : decode 0x21300005 = .ok (.pPush 3 5) := by decide
theorem test_decode_p_shift : decode 0x22180003 = .ok (.pShift 1 2 3) := by decide
theorem test_decode_p_mul : decode 0b00100011001000010000000000000000 = .ok (.pMul 2 0 1) := by decide
theorem test_decode_p_mod : decode 0b00100100001110010000000000000000 = .ok (.pMod 3 2 1) := by decide
theorem test_decode_p_gen : decode 0x25200007 = .ok (.pGen 2 7) := by decide
theorem test_decode_p_len : decode 0x260C0000 = .ok (.pLen 3) := by decide
theorem test_decode_p_get : decode 0x27040001 = .ok (.pGet 1 1) := by decide
theorem test_decode_bb_clr : decode 0x30000000 = .ok .bbClr := by decide
theorem test_decode_bb_put : decode 0b00110001000001000000000000000100 = .ok (.bbPut 4 4) := by decide
theorem test_decode_bb_putbit : decode 0x32000001 = .ok (.bbPutBit 1) := by decide
theorem test_decode_bb_get : decode 0x3300000C = .ok (.bbGet 12) := by decide
theorem test_decode_bb_getbyte : decode 0x34000001 = .ok (.bbGetByte 1) := by decide
theorem test_decode_bb_len : decode 0x35000000 = .ok .bbLen := by decide
theorem test_decode_sym_cfg : decode 0b01000000000000000010100000000011 = .ok (.symCfg 40 3) := by decide
theorem test_decode_seg_begin : decode 0x41000000 = .ok .segBegin := by decide
theorem test_decode_seg_byte : decode 0x42000041 = .ok (.segByte 0x41) := by decide
theorem test_decode_enc_data : decode 0x43000000 = .ok .encData := by decide
theorem test_decode_enc_rs : decode 0x44000000 = .ok .encRs := by decide
theorem test_decode_enc_ilv : decode 0x45000000 = .ok .encIlv := by decide
theorem test_decode_cw_len : decode 0x46000000 = .ok .cwLen := by decide
theorem test_decode_cw_get : decode 0x47000013 = .ok (.cwGet 19) := by decide
theorem test_decode_plan_cnt : decode 0x48000000 = .ok .planCnt := by decide
theorem test_decode_plan_get : decode 0x49000002 = .ok (.planGet 2) := by decide
theorem test_decode_mx_clr : decode 0x50000000 = .ok .mxClr := by decide
theorem test_decode_mx_finder : decode 0x51000000 = .ok .mxFinder := by decide
theorem test_decode_mx_align : decode 0x52000000 = .ok .mxAlign := by decide
theorem test_decode_mx_timing : decode 0x53000000 = .ok .mxTiming := by decide
theorem test_decode_mx_format : decode 0b01010100000000000000001100000001 = .ok (.mxFormat 3 1) := by decide
theorem test_decode_mx_version : decode 0x55000001 = .ok (.mxVersion 1) := by decide
theorem test_decode_mx_data : decode 0x56000003 = .ok (.mxData 3) := by decide
theorem test_decode_mx_build : decode 0x57000300 = .ok (.mxBuild 3 0) := by decide
theorem test_decode_mx_rd : decode 0x58000D08 = .ok (.mxRd 13 8) := by decide
theorem test_decode_ms_score : decode 0b01100000000000000000000000000111 = .ok (.msScore 7) := by decide
theorem test_decode_ms_select : decode 0x61000000 = .ok .msSelect := by decide
theorem test_decode_pen_get : decode 0x62000302 = .ok (.penGet 3 2) := by decide
theorem test_decode_build : decode 0x70000000 = .ok .build := by decide
theorem test_decode_rd_count : decode 0x71000000 = .ok .rdCount := by decide
theorem test_decode_rd_dark : decode 0b01110010000000000000110100001000 = .ok (.rdDark 13 8) := by decide
theorem test_decode_rd_mask : decode 0x73000000 = .ok .rdMask := by decide
theorem test_decode_rd_cfg : decode 0x74000000 = .ok .rdCfg := by decide

/-- The three reasons and their order (R90; `PEN_GET 9, 4` of 60_exceptions.md R325). -/
theorem test_decode_illegal : decode 0x04000000 = .error .unassignedOpcode ∧
    decode 0x21040100 = .error .reservedFieldNotZero ∧ decode 0x62000904 = .error .operandOutOfRange := by decide

/-! ## Small steps -/

/-- The state a command leaves. -/
def after (i : Instr) (s : State) : State :=
  match exec i s with
  | .next t => t
  | .fault _ => s
  | .refused _ => s

/-- A configured symbol with a clear matrix. -/
def sym (v : BitVec 6) (l : BitVec 2) : State :=
  { State.reset with version := v, ecl := l, cfgValid := true, mat := clearMat (4 * v.toNat + 17) }

/-- The symbol of 44_encoder.md R196's example: version 1 level L, one segment `[0x41]`. -/
def symA : State := { sym 1 1 with pay := [0x41], seg := [1] }

/-- Its data codewords (R196). -/
def dataA : List Byte :=
  [0x40, 0x14, 0x10, 0xEC, 0x11, 0xEC, 0x11, 0xEC, 0x11, 0xEC, 0x11, 0xEC, 0x11, 0xEC, 0x11, 0xEC, 0x11, 0xEC, 0x11]

/-- Its EC codewords (R198). -/
def ecA : List Byte := [0x52, 0x4B, 0xB5, 0x3B, 0xAF, 0x8D, 0xF1]

/-- A state with two polynomial registers loaded. -/
def withPolys (a b : List Byte) : State := (State.reset.setPoly 0 a).setPoly 1 b

/-- A state with an error recorded. -/
def inError : State := { State.reset with err := 3, errOpc := 0x11 }

theorem test_nop : after .nop symA = symA := by decide
theorem test_err_clr : after .errClr inError = State.reset := by decide
theorem test_soft_reset : after .softReset { symA with err := 2, errOpc := 0x43 } = State.reset := by decide
theorem test_id : (after .ident State.reset).result = 0x51524301 := by decide

/-! Vectors GF-09, GF-14, GF-20, GF-22, GF-26, GF-28, GF-32 and the examples of 41_galois_field.md. -/
theorem test_gf_exp_510 : (after (.gfExp 510) State.reset).result = 0x01 := by decide
theorem test_gf_exp_negative : (after (.gfExp 0x8000) State.reset).result = 0xCC := by decide
theorem test_gf_log_0x8E : (after (.gfLog 0x8E) State.reset).result = 0xFE := by decide
theorem test_gf_log_0 : (after (.gfLog 0) State.reset).status = 0x00001103 := by decide
theorem test_gf_mul_reduces : (after (.gfMul 0x02 0x80) State.reset).result = 0x1D := by decide
theorem test_gf_mul_0xFF : (after (.gfMul 0xFF 0xFF) State.reset).result = 0xE2 := by decide
theorem test_gf_add : (after (.gfAdd 0x53 0xCA) State.reset).result = 0x99 := by decide
theorem test_bch_fmt : (after (.bchFmt 0x0B) State.reset).result = 0x789D := by decide
theorem test_bch_ver : (after (.bchVer 0x3F) State.reset).result = 0x3FB85 := by decide

/-! Vectors POLY-01, POLY-05, POLY-06, POLY-09, POLY-11, POLY-13, POLY-16, POLY-23, POLY-28, POLY-30. -/
theorem test_p_clr : (after (.pClr 0) (withPolys [1, 2] [3])).poly = (withPolys [] [3]).poly := by decide
theorem test_p_push : (after (.pPush 0 2) (withPolys [1] [])).getPoly 0 = [1, 2] := by decide
theorem test_p_push_strips : (after (.pPush 0 0) State.reset).getPoly 0 = [] := by decide
theorem test_p_shift : (after (.pShift 1 0 3) (withPolys [5, 0] [])).getPoly 1 = [5, 0, 0, 0, 0] := by decide
theorem test_p_shift_empty : (after (.pShift 1 0 4) State.reset).getPoly 1 = [0, 0, 0, 0] := by decide
theorem test_p_mul : (after (.pMul 2 0 1) (withPolys [1, 2] [1, 4])).getPoly 2 = [1, 6, 8] := by decide
theorem test_p_mul_square : (after (.pMul 0 0 0) (withPolys [1, 2] [])).getPoly 0 = [1, 0, 4] := by decide
theorem test_p_mod : (after (.pMod 2 0 1) (withPolys [1, 0, 0] [1, 3])).getPoly 2 = [5] := by decide
theorem test_p_mod_empty : (after (.pMod 2 0 3) (withPolys [7, 8, 9] [])).status = 0x00002403 := by decide
theorem test_p_gen :
    (after (.pGen 0 7) State.reset).getPoly 0 = [0x01, 0x7F, 0x7A, 0x9A, 0xA4, 0x0B, 0x44, 0x75] := by
  decide +kernel
theorem test_p_len : (after (.pLen 1) (withPolys [] [1, 2, 3])).result = 3 := by decide
theorem test_p_get : (after (.pGet 0 1) (withPolys [1, 0x7F] [])).result = 0x7F := by decide
theorem test_p_get_past_end : (after (.pGet 0 2) (withPolys [1, 0x7F] [])).status = 0x00002704 := by decide

/-- The buffer of vectors BB-08 to BB-13: `0100 00000001`. -/
def buffer12 : State :=
  { State.reset with
    bb := [false, true, false, false, false, false, false, false, false, false, false, true] }

/-! Vectors BB-01, BB-08 to BB-13 and the examples of 43_bitbuffer.md. -/
theorem test_bb_clr : (after .bbClr { buffer12 with rsValid := true }) = State.reset := by decide
theorem test_bb_put : (after (.bbPut 8 1) (after (.bbPut 4 0xFFF4) State.reset)).bb = buffer12.bb := by decide
theorem test_bb_putbit : (after (.bbGetByte 0) (after (.bbPutBit 1) State.reset)).result = 0x80 := by decide
theorem test_bb_get : (after (.bbGet 1) buffer12).result = 1 := by decide
theorem test_bb_get_past_end : (after (.bbGet 16) buffer12).status = 0x00003304 := by decide
theorem test_bb_getbyte : (after (.bbGetByte 1) buffer12).result = 0x10 := by decide
theorem test_bb_len : (after .bbLen buffer12).result = 12 := by decide

/-! Vectors ENC-05, ENC-09, ENC-11, ENC-17 to ENC-19, ENC-26 and the examples of 44_encoder.md. -/
theorem test_sym_cfg : (after (.symCfg 1 1) { inError with err := 0 }).status = 0x00011100 := by decide
theorem test_sym_cfg_41 : (after (.symCfg 41 1) State.reset).status = 0x00004001 := by decide
theorem test_seg_begin : (after .segBegin (sym 1 1)).seg = [0] := by decide
theorem test_seg_byte : after (.segByte 0x41) (after .segBegin (sym 1 1)) = symA := by decide
theorem test_seg_byte_without_segment : (after (.segByte 1) (sym 1 1)).status = 0x00014206 := by decide
theorem test_enc_data : (List.range 19).map (byteAt (after .encData symA).bb) = dataA := by decide +kernel
theorem test_enc_data_overflow :
    (after .encData { sym 1 2 with pay := List.replicate 8 0, seg := [8] }).status = 0x00014302 := by decide +kernel
theorem test_enc_rs :
    (after .encRs { sym 1 1 with bb := dataA.flatMap fun b => msbFirst b.toNat 8 }).ec = [ecA] := by decide +kernel
theorem test_enc_ilv : (after .encIlv { sym 1 1 with rsValid := true, dc := [[1, 2], [3, 4, 5]], ec := [[6], [7]] }).cw =
    [1, 3, 2, 4, 5, 6, 7] := by decide
theorem test_enc_ilv_without_rs : (after .encIlv (sym 1 1)).status = 0x00014506 := by decide
theorem test_cw_len : (after .cwLen { sym 1 1 with cw := dataA ++ ecA }).result = 26 := by decide
theorem test_cw_get : (after (.cwGet 19) { sym 1 1 with cw := dataA ++ ecA }).result = 0x52 := by decide
theorem test_plan_cnt : (after .planCnt (sym 5 3)).result = 4 := by decide
theorem test_plan_get : (after (.planGet 2) (sym 5 3)).result = 0x00002210 := by decide

/-! Vectors MX-04, MX-12, MX-23, MX-39, MX-40, MX-49, MX-52, MX-53, MX-63, MX-65, MX-67. -/
theorem test_mx_clr : (after .mxClr { symA with mat := [] }).mat = (sym 1 1).mat := by decide +kernel
theorem test_mx_finder : getCell (after .mxFinder (sym 1 1)).mat 3 3 = .dark := by decide +kernel
theorem test_mx_align : getCell (after .mxAlign (sym 2 1)).mat 17 18 = .light := by decide +kernel
theorem test_mx_timing : getCell (after .mxTiming (sym 1 1)).mat 9 6 = .light := by decide +kernel
theorem test_mx_format_dark_module : getCell (after (.mxFormat 3 0) (sym 1 1)).mat 13 8 = .dark := by decide +kernel
theorem test_mx_format_trial : getCell (after (.mxFormat 3 1) (sym 1 1)).mat 0 8 = .light := by decide +kernel
theorem test_mx_version : getCell (after (.mxVersion 0) (sym 7 1)).mat 36 0 = .dark := by decide +kernel
theorem test_mx_version_6 : (after (.mxVersion 0) { sym 6 1 with matValid := true }) = sym 6 1 := by decide +kernel

/-- Mask 0 and no codeword: the first two cells visited, `(20, 20)` and `(20, 19)`. -/
theorem test_mx_data : ((zigzag 21).take 2, (placeBit 0 (clearMat 21, []) (20, 20)).1[20]?.bind (·[20]?),
    (placeBit 0 (clearMat 21, []) (20, 19)).1[20]?.bind (·[19]?)) =
    ([(20, 20), (20, 19)], some .dark, some .light) := by decide +kernel
theorem test_mx_data_mask_8 : (after (.mxData 8) (sym 1 1)).status = 0x00015603 := by decide
theorem test_mx_build_mask_8 : (after (.mxBuild 8 0) (sym 1 1)).status = 0x00015703 := by decide
theorem test_mx_rd_unset : (after (.mxRd 20 20) { sym 1 1 with result := 7 }).result = 0 := by decide
theorem test_mx_rd_past_edge : (after (.mxRd 21 0) (sym 1 1)).status = 0x00015804 := by decide

/-- The penalty records of 95_test_vectors.md section 8.2. -/
def penaltiesA : Vector Penalty 8 :=
  #v[⟨208, 144, 800, 208⟩, ⟨283, 198, 1000, 214⟩, ⟨231, 192, 760, 202⟩, ⟨201, 186, 760, 206⟩, ⟨246, 186, 760, 220⟩,
    ⟨288, 198, 760, 212⟩, ⟨345, 231, 760, 212⟩, ⟨244, 189, 760, 210⟩]

/-- By hand from 46_mask.md R271: `19 * 19` inner cells with 8 neighbours of their colour, and `20 * 20` blocks. -/
theorem test_ms_score_all_light :
    (after (.msScore 7) { sym 1 1 with mat := List.replicate 21 (List.replicate 21 .light) }).getPen 7 =
      ⟨2166, 1200, 0, 0⟩ := by decide +kernel
theorem test_ms_score_unset : (after (.msScore 0) (sym 1 1)).status = 0x00016006 := by decide +kernel
theorem test_ms_select_key : penaltyKey 21 penaltiesA[3] = 508727 := by decide
theorem test_ms_select_best : bestMask 21 penaltiesA = 3 := by decide
theorem test_pen_get : (after (.penGet 3 2) { State.reset with pen := penaltiesA }).result = 760 := by decide
theorem test_pen_get_slot_8 : (after (.penGet 8 0) State.reset).status = 0x00006203 := by decide

/-! The examples of 47_facade.md and the seven sequences of 60_exceptions.md R325. -/
theorem test_build_codewords : (after .build symA).cw = dataA ++ ecA := by decide +kernel
theorem test_build_overflow : (after .build { sym 1 2 with pay := List.replicate 8 0, seg := [8] }).status = 0x00017002 := by
  decide +kernel
theorem test_rd_count : (after .rdCount (sym 40 2)).result = 177 := by decide
theorem test_rd_count_without_symbol : (after .rdCount State.reset).status = 0x00007106 := by decide
theorem test_rd_dark_cached :
    (after (.rdDark 13 8) { sym 1 1 with matValid := true, mat := setCell (clearMat 21) 13 8 .dark }).result = 1 := by
  decide
theorem test_rd_mask_cached : (after .rdMask { sym 1 1 with matValid := true, sel := 3 }).result = 3 := by decide
theorem test_rd_cfg : (after .rdCfg (sym 40 2)).result = 0x228 := by decide

/-! ## The bus -/

/-- The reset state with one bus event pending. -/
def onBus (e : BusEvent) (s : State) : State := { s with pending := [e] }

theorem test_step_runs_command : step (State.reset.withFetchWord 32 0x03000000) =
    .next { State.reset with result := 0x51524301 } := rfl
theorem test_step_discards : step (onBus (.write 4 0x00 0x03000000) inError) = .next inError := rfl
theorem test_step_malformed_err_clr : step (onBus (.write 4 0x00 0x01000001) inError) = .next inError := rfl
theorem test_step_illegal_word : step (onBus (.write 4 0x00 0x62000904) State.reset) =
    .next { State.reset with err := 5, errOpc := 0x62 } := rfl
theorem test_step_reads_status : step (onBus (.read 4 0x04) inError) =
    .next { inError with readData := 0x00001103 } := rfl
theorem test_step_refuses_byte_access : step (onBus (.read 1 0x04) State.reset) = .refused .malformedAccess := rfl
theorem test_step_reset_input : step (onBus (.resetDuring 0x70000000) symA) = .next State.reset := rfl

/-! ## Witnesses: for each statement, states and operands that meet its hypotheses, at the ends of each clause's range -/

/-- A register of `n` ones in each place. -/
def polysOfLength (n : Nat) : State := { State.reset with poly := Vector.replicate 4 (List.replicate n 1) }

/-- A buffer of `n` zeros. -/
def bufferOfLength (n : Nat) : State := { State.reset with bb := List.replicate n false }

theorem bufferOfLength_length (n : Nat) : (bufferOfLength n).bb.length = n := List.length_replicate

/-- A symbol whose last segment has `n` bytes. -/
def payloadOfLength (n : Nat) : State := { sym 1 1 with pay := List.replicate n 0, seg := [n] }

theorem payloadOfLength_length (n : Nat) : (payloadOfLength n).pay.length = n := List.length_replicate

/-- A symbol with `n` empty segments. -/
def segmentsOfNumber (n : Nat) : State := { sym 1 1 with seg := List.replicate n 0 }

theorem segmentsOfNumber_length (n : Nat) : (segmentsOfNumber n).seg.length = n := List.length_replicate

theorem witness_DecodeEncodeRoundTrip : (Instr.bbPut 16 0xFFFF).wellFormed = true := by decide
theorem witness_EncodeDecodeRoundTrip : decode 0x243F0000 = .ok (.pMod 3 3 3) := by decide
theorem witness_IllegalWordReasons : unassigned 0xFF = true ∧ unassigned 0x74 = false ∧
    (0x74000001 : Word) &&& mustBeZero 0x74 ≠ 0 ∧ outOfRange 0x21000100 = true ∧ outOfRange 0x210000FF = false := by decide
theorem witness_StepRunsDecodedCommand :
    (onBus (.write 4 0x00 0x43000000) symA).pending = .write 4 0x00 0x43000000 :: [] ∧
      decode 0x43000000 = .ok .encData := by decide
theorem witness_StepRecordsIllegalWord :
    (onBus (.write 4 0x00 0x01000001) inError).pending = .write 4 0x00 0x01000001 :: [] ∧
      decode 0x01000001 = .error .reservedFieldNotZero ∧ State.reset.err = 0 ∧ inError.err ≠ 0 := by decide
theorem witness_IdleStepHoldsState : symA.pending = [] := rfl
theorem witness_RegisterWindow : (0xFC : Byte).toNat % 4 = 0 ∧ (0xFC : Byte) ≠ 0x00 ∧
    (onBus (.read 4 0xFC) symA).pending = .read 4 0xFC :: [] ∧
    (onBus (.write 4 0xFC 1) symA).pending = .write 4 0xFC 1 :: [] := by decide
theorem witness_MalformedAccessRefused : (2 : Nat) ≠ 4 ∧ (0x01 : Byte).toNat % 4 ≠ 0 ∧
    (onBus (.read 4 0x01) symA).pending = .read 4 0x01 :: [] ∧
    (onBus (.write 2 0x00 0) symA).pending = .write 2 0x00 0 :: [] := by decide
theorem witness_ResetInput : (onBus .resetInput symA).pending = .resetInput :: [] ∧
    (onBus (.resetDuring 0x70000000) symA).pending = .resetDuring 0x70000000 :: [] := ⟨rfl, rfl⟩
theorem witness_ErrorsArePrecise : exec (.gfLog 0) State.reset = .next inError ∧ inError.err ≠ 0 := ⟨rfl, by decide⟩
theorem witness_ErrorDiscardsCommands : inError.err ≠ 0 ∧ Instr.build ≠ .errClr ∧ Instr.build ≠ .softReset ∧
    (0x01000001 : Word) ≠ 0x01000000 ∧ (0xFF000000 : Word) ≠ 0x02000000 := by decide
theorem witness_SequenceErrorWithoutSymbol : (Instr.mxFormat 9 1).needsSymbol = true ∧
    (Instr.mxFormat 9 1).wellFormed = true ∧ (Instr.mxFormat 9 2).needsSymbol = true ∧
    (Instr.mxFormat 9 2).wellFormed = false ∧ State.reset.err = 0 ∧ State.reset.cfgValid = false := by decide
theorem witness_CommandsThatNeverFail : Instr.cwLen.neverFails = true ∧ State.reset.err = 0 := by decide
theorem witness_ready : State.reset.err = 0 ∧ symA.err = 0 := by decide

/-- The hypotheses of the clauses on a machine without a symbol, and on operands outside an encoding range. -/
theorem witness_unconfigured_and_ranges : State.reset.unconfigured ∧ 0xFF < (0x100 : Half).toNat ∧
    16 < (17 : BitVec 5).toNat ∧ 1 < (2 : Byte).toNat ∧ 0x1F < (0x20 : Byte).toNat ∧ 0x3F < (0x40 : Byte).toNat ∧
    3 < (4 : Byte).toNat := by decide
theorem witness_GfLog : State.reset.err = 0 ∧ (0xFF : Byte) ≠ 0 ∧ (0x00 : Byte) = 0 := by decide
theorem witness_BchCodewords : State.reset.err = 0 ∧ (0x1F : Byte).toNat ≤ 0x1F ∧ (0x3F : Byte).toNat ≤ 0x3F := by decide
theorem witness_PolyClearPushShift : (0xFF : Half).toNat ≤ 0xFF ∧ (polysOfLength 511).poly[(3 : PReg)].length < 512 ∧
    512 ≤ (polysOfLength 512).poly[(3 : PReg)].length ∧
    ((polysOfLength 2).poly[(3 : PReg)].dropWhile (· == 0)).length + (510 : Half).toNat ≤ 512 ∧
    512 < ((polysOfLength 2).poly[(3 : PReg)].dropWhile (· == 0)).length + (511 : Half).toNat := by decide +kernel
theorem witness_PolyProduct : State.reset.poly[(0 : PReg)] = [] ∧ (polysOfLength 256).poly[(0 : PReg)] ≠ [] ∧
    (polysOfLength 256).poly[(0 : PReg)].length + (polysOfLength 256).poly[(1 : PReg)].length - 1 ≤ 512 ∧
    512 < (polysOfLength 257).poly[(0 : PReg)].length + (polysOfLength 257).poly[(1 : PReg)].length - 1 := by decide +kernel
theorem witness_PolyRemainder : State.reset.poly[(1 : PReg)] = [] ∧
    ((withPolys [7] [1, 3]).poly[(0 : PReg)].length < (withPolys [7] [1, 3]).poly[(1 : PReg)].length) ∧
    ((withPolys [0, 0] [1, 3]).poly[(0 : PReg)].head? = some 0 ∧ [1, 3].length ≤ [0, 0].length) ∧
    ((withPolys [7, 8] [5, 3]).poly[(0 : PReg)].head? ≠ some 0 ∧
      (withPolys [7, 8] [5, 3]).poly[(1 : PReg)].head? ≠ some 0) := by decide
theorem witness_PolyRemainderIdempotent :
    exec (.pMod 2 0 1) (withPolys [1, 0, 0] [1, 3]) = .next ((withPolys [1, 0, 0] [1, 3]).setPoly 2 [5]) ∧
      ((withPolys [1, 0, 0] [1, 3]).setPoly 2 [5]).err = 0 ∧ (2 : PReg) ≠ 1 := ⟨rfl, by decide, by decide⟩
theorem witness_PolyGenerator : (511 : Half).toNat ≤ 511 ∧ 511 < (512 : Half).toNat := by decide
theorem witness_PolyReads : (polysOfLength 512).poly[(2 : PReg)][(511 : Half).toNat]? = some 1 ∧
    (polysOfLength 512).poly[(2 : PReg)].length ≤ (512 : Half).toNat := by decide +kernel
theorem witness_BitBufferAppends : (bufferOfLength 32752).bb.length + (16 : BitVec 5).toNat ≤ 32768 ∧
    32768 < (bufferOfLength 32753).bb.length + (16 : BitVec 5).toNat ∧ (bufferOfLength 32767).bb.length < 32768 ∧
    32768 ≤ (bufferOfLength 32768).bb.length ∧ (1 : Byte).toNat ≤ 1 := by
  simp only [bufferOfLength_length]; decide
theorem witness_BitBufferReads : (15 : Half).toNat < 8 * ((buffer12.bb.length + 7) / 8) ∧
    8 * ((buffer12.bb.length + 7) / 8) ≤ (16 : Half).toNat ∧ (1 : Half).toNat < (buffer12.bb.length + 7) / 8 ∧
    (buffer12.bb.length + 7) / 8 ≤ (2 : Half).toNat := by decide
theorem witness_BitBufferReadsWhatWasPut :
    exec (.bbPut 8 1) { State.reset with bb := [false, true, false, false] } = .next buffer12 ∧ buffer12.err = 0 ∧
      [false, true, false, false].length ≤ (11 : Half).toNat ∧ (11 : Half).toNat < buffer12.bb.length ∧
      (3 : Half).toNat < [false, true, false, false].length := ⟨rfl, by decide⟩
theorem witness_SymbolConfiguration : (1 ≤ (1 : Byte).toNat ∧ (40 : Byte).toNat ≤ 40 ∧ (3 : Byte).toNat ≤ 3) ∧
    (40 < (41 : Byte).toNat ∧ 3 < (4 : Byte).toNat) := by decide
theorem witness_SegmentAppends : (segmentsOfNumber 2047).seg.length < 2048 ∧ 2048 ≤ (segmentsOfNumber 2048).seg.length ∧
    (payloadOfLength 4095).pay.length < 4096 ∧ 4096 ≤ (payloadOfLength 4096).pay.length ∧
    (payloadOfLength 4095).seg.sum = (payloadOfLength 4095).pay.length ∧
    (payloadOfLength 4095).seg = [] ++ [4095] ∧ (payloadOfLength 4096).seg ≠ [] ∧ (sym 1 1).seg = [] ∧
    (payloadOfLength 4095).configured ∧ (segmentsOfNumber 2047).configured := by
  simp only [segmentsOfNumber_length, payloadOfLength_length]
  exact ⟨by decide, by decide, by decide, by decide, rfl, rfl, List.cons_ne_nil _ _, rfl, by decide, by decide⟩
theorem witness_DataStreamAssembly : (payloadOfLength 17).configured ∧ (payloadOfLength 17).fits ∧
    ¬ (payloadOfLength 18).fits := by decide +kernel
theorem witness_ReedSolomonBlocks : ({ sym 1 1 with bb := List.replicate 152 false } : State).bb.length =
    8 * totalDataCount (sym 1 1).version.toNat (sym 1 1).ecl ∧
    (sym 1 1).bb.length ≠ 8 * totalDataCount (sym 1 1).version.toNat (sym 1 1).ecl ∧ (sym 1 1).configured := by
  decide +kernel
theorem witness_InterleavedCodewords : ({ sym 5 3 with rsValid := true } : State).configured ∧
    (sym 5 3).rsValid = false := by decide
theorem witness_CodewordAndPlanReads : ({ sym 40 2 with cw := dataA ++ ecA } : State).cw[(25 : Half).toNat]? = some 0xF1 ∧
    (dataA ++ ecA).length ≤ (26 : Half).toNat ∧
    (plan (sym 40 2).version.toNat (sym 40 2).ecl)[(80 : Half).toNat]? = some (16, 46) ∧
    (plan (sym 40 2).version.toNat (sym 40 2).ecl).length ≤ (81 : Half).toNat ∧ (sym 40 2).hasVersion ∧
    (sym 40 2).configured := by decide +kernel

/-- The clauses about every version, at the last row of each table (R201: 40 H has 81 blocks of 30 EC codewords, 3706
codewords in all; R238: 7 coordinates). -/
theorem witness_tables_40 : (1 ≤ 40 ∧ 40 ≤ 40) ∧ planColumns[39]?.bind (·[levelPlace 2]?) = some (30, 81) ∧
    dataCells 40 / 8 = 3706 ∧ (alignPos 40).length = 7 ∧ alignMeetsFacts 40 := by decide +kernel
theorem witness_MatrixClearAndRead : (20 : Byte).toNat < (sym 1 1).n ∧ (sym 1 1).n ≤ (21 : Byte).toNat ∧
    (sym 1 1).mat[(20 : Byte).toNat]? = some (List.replicate 21 .unset) ∧
    (List.replicate 21 Cell.unset)[(20 : Byte).toNat]? = some .unset ∧ (sym 1 1).configured := by decide

/-- The premises of the statements about the fixed patterns and data placement, at the smallest version. -/
theorem witness_matrix_steps : (sym 1 1).configured ∧ (sym 1 1).hasVersion ∧ (sym 1 1).matShaped ∧
    (7 : Byte).toNat ≤ 7 ∧ 7 < (8 : Byte).toNat ∧ (1 : Byte).toNat ≤ 1 := by decide +kernel

/-- The same at the largest version. -/
theorem witness_matrix_steps_40 : (sym 40 2).configured ∧ (sym 40 2).hasVersion ∧ (sym 40 2).matShaped :=
  ⟨by decide, by decide, squareMat_clearMat 177⟩

theorem witness_VersionInformation : (sym 6 1).version.toNat < 7 ∧ 7 ≤ (sym 7 1).version.toNat ∧ (sym 7 1).matShaped :=
  ⟨by decide, by decide, squareMat_clearMat 45⟩
theorem witness_MatrixScore : (7 : Byte).toNat < 8 ∧ 8 ≤ (8 : Byte).toNat ∧
    (∀ row ∈ ({ sym 1 1 with mat := List.replicate 21 (List.replicate 21 .dark) } : State).mat, ∀ cell ∈ row,
      cell ≠ .unset) ∧ ∃ row ∈ (sym 1 1).mat, Cell.unset ∈ row := by
  refine ⟨by decide, by decide, by decide +kernel, List.replicate 21 .unset, by decide +kernel, by decide⟩
theorem witness_SelectionDependsOnCodewordsAlone : symA.configured ∧ (sym 1 1).configured ∧
    symA.version = (sym 1 1).version ∧ symA.ecl = (sym 1 1).ecl ∧ symA.cw = (sym 1 1).cw ∧
    (∃ t, exec .msSelect symA = .next t) ∧ ∃ t, exec .msSelect (sym 1 1) = .next t :=
  ⟨by decide, by decide, rfl, rfl, rfl, exec_next _ _, exec_next _ _⟩
theorem witness_PenaltyReads : (7 : Byte).toNat < 8 ∧ 8 ≤ (8 : Byte).toNat ∧ (3 : Byte).toNat ≤ 3 := by decide
theorem witness_BuildRunsThePipeline : symA.configured ∧ symA.fits ∧ ¬ (payloadOfLength 18).fits ∧
    (payloadOfLength 18).configured := by decide +kernel
theorem witness_DarkReadBuildsLazily : symA.configured ∧ (20 : Byte).toNat < symA.n ∧ symA.n ≤ (21 : Byte).toNat ∧
    symA.matValid = false ∧ symA.fits ∧ ¬ (payloadOfLength 18).fits ∧ (payloadOfLength 18).matValid = false ∧
    ({ symA with matValid := true } : State).matValid = true := by decide +kernel

/-- The invariants hold in the reset state, from which a step goes on. -/
theorem witness_step_invariants : Memory.wf State.reset ∧ State.reset.statusWf ∧ State.reset.penaltiesBounded ∧
    State.reset.cacheCoherent ∧ step (State.reset.pushCommand 0x40000101) = .next (sym 1 1) :=
  ⟨wf_reset, by decide, by decide, by simp [State.cacheCoherent, State.reset], rfl⟩
theorem witness_BufferEmptyUntilPutWithoutSymbol :
    ((onBus (.write 4 0x00 0x30000000) State.reset).cfgValid = false ∧
      (onBus (.write 4 0x00 0x30000000) State.reset).bb = [] ∧
      (0x30000000 : Word).toNat / 2 ^ 24 ∉ [0x31, 0x32] ∧
      step (onBus (.write 4 0x00 0x30000000) State.reset) = .next State.reset) ∧
    ((Instr.bbPut 1 0).wellFormed = true ∧ (Instr.bbPut 1 0).opcode ∈ [0x31, 0x32] ∧
      (∀ val, Instr.bbPut 1 0 ≠ .bbPut 0 val) ∧ (bufferOfLength 32752).unconfigured ∧
      (bufferOfLength 32752).bb.length + 16 ≤ 32768) :=
  ⟨⟨rfl, rfl, by decide, rfl⟩, rfl, by decide, fun val h => absurd (Instr.bbPut.inj h).1 (by decide), by decide,
    by simp only [bufferOfLength_length]; decide⟩
theorem witness_OnlyTheNamedCommandsWrite : ∃ t, exec .rdMask { symA with matValid := true } = .next t :=
  exec_next _ _

end Sys2Proof.Tests
end

section
/-! PROOFS. What a command can do: one case split over the commands, from which every invariant is derived. -/

namespace Sys2Proof.Machine

/-- What a command that succeeds does, in the named updates of the model, with the opcode bytes that may do it and the
checks it has passed. `exec_outcome` ties it to `exec`. -/
inductive Effect (i : Instr) (s : State) : State → Prop
  | nothing (hi : i = .nop) : Effect i s s
  | clearError (hi : i = .errClr) : Effect i s s.clearError
  | reset (hi : i = .softReset) : Effect i s s.resetCore
  | result (v : Word)
      (hi : i.opcode ∈ [0x03, 0x10, 0x11, 0x12, 0x13, 0x14, 0x15, 0x26, 0x27, 0x33, 0x34, 0x35, 0x46, 0x47, 0x48, 0x49,
        0x58, 0x62, 0x71, 0x72, 0x73, 0x74]) : Effect i s (s.setResult v)
  | poly (r : PReg) (l : List Byte) (hi : i.opcode ∈ [0x20, 0x21, 0x22, 0x23, 0x24, 0x25])
      (hl : l.length ≤ 512 ∨ ∃ r', l.length ≤ (s.getPoly r').length) : Effect i s (s.setPoly r l)
  | clearBits (hi : i = .bbClr) : Effect i s (s.writeBb [])
  | putBits (bits : List Bool) (hi : i.opcode ∈ [0x31, 0x32]) (hl : (s.bb ++ bits).length ≤ 32768) :
      Effect i s (s.writeBb (s.bb ++ bits))
  | dataBits (bb : List Bool) (hi : i = .encData) (hv : s.cfgValid = true) (hb : s.dataStream = .ok bb) :
      Effect i s (s.writeBb bb)
  | configure (v : BitVec 6) (l : BitVec 2) (hi : i.opcode = 0x40) (hv : 1 ≤ v.toNat ∧ v.toNat ≤ 40) :
      Effect i s (s.configure v l)
  | openSegment (hi : i = .segBegin) (hv : s.cfgValid = true) (hl : s.seg.length < 2048) : Effect i s s.openSegment
  | appendByte (b : Byte) (hi : i = .segByte b) (hv : s.cfgValid = true) (hs : s.seg ≠ [])
      (hl : s.pay.length < 4096) : Effect i s (s.appendByte b)
  | blocks (dc ec : List (List Byte)) (hi : i = .encRs) (hv : s.cfgValid = true)
      (hl : s.bb.length = 8 * totalDataCount s.version.toNat s.ecl)
      (hb : codeBlocks s.bb 0 (plan s.version.toNat s.ecl) = .ok (dc, ec)) : Effect i s (s.setBlocks dc ec)
  | codewords (hi : i = .encIlv) (hv : s.cfgValid = true) (hr : s.rsValid = true) :
      Effect i s (s.setCw (interleave s.dc s.ec))
  | matrix (m : Mat) (hi : i.opcode ∈ [0x50, 0x51, 0x52, 0x53, 0x54, 0x55, 0x56, 0x57]) (hv : s.cfgValid = true)
      (hm : squareMat s.n s.mat → squareMat s.n m) : Effect i s (s.writeMat m)
  | score (k : Nat) (hi : i.opcode = 0x60) (hv : s.cfgValid = true) : Effect i s (s.setPen k (penalty s.mat s.n))
  | select (hi : i = .msSelect) (hv : s.cfgValid = true) : Effect i s s.selectMask
  | build (t : State) (hi : i = .build) (hv : s.cfgValid = true) (hb : s.buildSymbol = .ok t) : Effect i s t
  | buildAndRead (t : State) (v : Word) (hi : i.opcode ∈ [0x72, 0x73]) (hv : s.cfgValid = true)
      (hm : s.matValid = false) (hb : s.buildSymbol = .ok t) : Effect i s (t.setResult v)

theorem except_map_eq_ok_iff {ε α β : Type} {x : Except ε α} {f : α → β} {b : β} :
    x.map f = .ok b ↔ ∃ a, x = .ok a ∧ f a = b := by
  cases x <;> simp [Except.map]

theorem n_of_cfgValid {s : State} (h : s.cfgValid = true) : s.n = 4 * s.version.toNat + 17 := if_pos h

/-- A read of the symbol answers from the cache or from a build (47_facade.md R292, R294). -/
theorem effect_of_lazyRead {i : Instr} {s t : State} {f : State → Word} (hi : i.opcode ∈ [0x72, 0x73])
    (hv : s.cfgValid = true) (h : (s.lazyBuild.map fun u => u.setResult (f u)) = .ok t) : Effect i s t := by
  obtain ⟨u, hu, rfl⟩ := except_map_eq_ok_iff.mp h
  unfold State.lazyBuild at hu
  split at hu
  · cases hu
    refine .result _ ?_
    simp only [List.mem_cons] at hi ⊢
    tauto
  · exact .buildAndRead u _ hi hv (Bool.eq_false_iff.mpr ‹_›) hu

/-- Everything a legal command can do: it is discarded while an error is recorded (60_exceptions.md R313), it has its
effect, or it records its error and changes nothing else (R312, R316). -/
inductive CommandOutcome (i : Instr) (s : State) : State → Prop
  | discarded (he : s.err ≠ 0) : CommandOutcome i s s
  | succeeded {t : State} (h : Effect i s t) : CommandOutcome i s t
  | failed (e : ErrKind) (he : s.err = 0) : CommandOutcome i s { s with err := e.code, errOpc := i.opcode }

/-- What a command can do whose rule, when it succeeds, has an effect. -/
theorem outcome_of_rule {i : Instr} {body : State → Except ErrKind State} {s t : State}
    (hi : ∀ s, exec i s = runCommand i.opcode body s) (h : exec i s = .next t) (hbody : body s = .ok t → Effect i s t) :
    CommandOutcome i s t := by
  obtain ⟨rfl, he⟩ | hb | ⟨e, -, he, rfl⟩ := runCommand_cases (hi s ▸ h)
  · exact .discarded he
  · exact .succeeded (hbody hb)
  · exact .failed e he

/-- What a command can do whose rule always succeeds. -/
theorem outcome_of_ok {i : Instr} {f : State → State} {s t : State}
    (hi : ∀ s, exec i s = runCommand i.opcode (fun s => .ok (f s)) s) (h : exec i s = .next t)
    (hf : Effect i s (f s)) : CommandOutcome i s t :=
  outcome_of_rule hi h fun hb => Except.ok.inj hb ▸ hf

/-- The one case split over the commands, from which every invariant is derived. -/
theorem exec_outcome {i : Instr} {s t : State} (h : exec i s = .next t) : CommandOutcome i s t := by
  cases i with
  | nop => exact outcome_of_ok (fun _ => rfl) h (.nothing rfl)
  | errClr => exact outcome_of_ok (fun _ => rfl) h (.clearError rfl)
  | softReset => exact outcome_of_ok (fun _ => rfl) h (.reset rfl)
  | ident | gfExp | gfMul | gfAdd | bchFmt | bchVer | pLen | bbLen | cwLen =>
    exact outcome_of_ok (fun _ => rfl) h (.result _ (by simp [Instr.opcode]))
  | gfLog b =>
    refine outcome_of_rule (fun _ => rfl) h fun hb => ?_
    obtain ⟨n, -, rfl⟩ := except_map_eq_ok_iff.mp hb
    exact .result _ (by simp [Instr.opcode])
  | pGet | bbGet | bbGetByte | cwGet | penGet =>
    refine outcome_of_rule (fun _ => rfl) h fun hb => ?_
    obtain ⟨-, hb⟩ := require_eq_ok_iff.mp hb
    cases hb; exact .result _ (by simp [Instr.opcode])
  | planCnt | rdCount | rdCfg =>
    refine outcome_of_rule (fun _ => rfl) h fun hb => ?_
    obtain ⟨-, hb⟩ := requireSymbol_eq_ok_iff.mp hb
    cases hb; exact .result _ (by simp [Instr.opcode])
  | mxRd a b =>
    refine outcome_of_rule (fun _ => rfl) h fun hb => ?_
    obtain ⟨-, hb⟩ := requireSymbol_eq_ok_iff.mp hb
    obtain ⟨-, hb⟩ := require_eq_ok_iff.mp hb
    cases hb; exact .result _ (by simp [Instr.opcode])
  | planGet imm =>
    refine outcome_of_rule (fun _ => rfl) h fun hb => ?_
    obtain ⟨-, hb⟩ := requireSymbol_eq_ok_iff.mp hb
    split at hb
    · cases hb
    · cases hb; exact .result _ (by simp [Instr.opcode])
  | pClr pd => exact outcome_of_ok (fun _ => rfl) h (.poly _ _ (by simp [Instr.opcode]) (.inl (by simp)))
  | pPush pd imm =>
    refine outcome_of_rule (fun _ => rfl) h fun hb => ?_
    obtain ⟨hl, hb⟩ := require_eq_ok_iff.mp hb
    cases hb
    refine .poly _ _ (by simp [Instr.opcode]) (.inl ((mkPoly_length_le _ _).trans ?_))
    simpa [Config.pMax] using hl
  | pShift pd pa imm =>
    refine outcome_of_rule (fun _ => rfl) h fun hb => ?_
    obtain ⟨hl, hb⟩ := require_eq_ok_iff.mp hb
    cases hb; exact .poly _ _ (by simp [Instr.opcode]) (.inl hl)
  | pMul pd pa pb =>
    refine outcome_of_rule (fun _ => rfl) h fun hb => ?_
    obtain ⟨hl, hb⟩ := require_eq_ok_iff.mp hb
    cases hb
    refine .poly _ _ (by simp [Instr.opcode]) (.inl ?_)
    obtain ha | hb | hl := hl
    · simp [pmul, ha]
    · simp [pmul, hb]
    · exact (pmul_length_le _ _).trans hl
  | pMod pd pa pb =>
    refine outcome_of_rule (fun _ => rfl) h fun hb => ?_
    obtain ⟨r, hr, rfl⟩ := except_map_eq_ok_iff.mp hb
    exact .poly _ _ (by simp [Instr.opcode]) (.inr ⟨pa, pmod_length_le hr⟩)
  | pGen pd imm =>
    refine outcome_of_rule (fun _ => rfl) h fun hb => ?_
    obtain ⟨hl, hb⟩ := require_eq_ok_iff.mp hb
    cases hb; exact .poly _ _ (by simp [Instr.opcode]) (.inl ((gen_length_le _).trans hl))
  | bbClr => exact outcome_of_ok (fun _ => rfl) h (.clearBits rfl)
  | bbPut | bbPutBit =>
    refine outcome_of_rule (fun _ => rfl) h fun hb => ?_
    obtain ⟨hl, hb⟩ := require_eq_ok_iff.mp hb
    cases hb; exact .putBits _ (by simp [Instr.opcode]) (by simpa [Config.bbCapBits] using hl)
  | symCfg a b =>
    refine outcome_of_rule (fun _ => rfl) h fun hb => ?_
    obtain ⟨⟨⟨hlo, hhi⟩, -⟩, hb⟩ := require_eq_ok_iff.mp hb
    cases hb
    have hv : (versionOf a).toNat = a.toNat := by
      simp only [versionOf, BitVec.toNat_setWidth, Config.versionMax] at *; omega
    exact .configure _ _ rfl ⟨hv ▸ hlo, hv ▸ hhi⟩
  | segBegin =>
    refine outcome_of_rule (fun _ => rfl) h fun hb => ?_
    obtain ⟨hv, hb⟩ := requireSymbol_eq_ok_iff.mp hb
    obtain ⟨hl, hb⟩ := require_eq_ok_iff.mp hb
    cases hb; exact .openSegment rfl hv hl
  | segByte b =>
    refine outcome_of_rule (fun _ => rfl) h fun hb => ?_
    obtain ⟨hv, hb⟩ := requireSymbol_eq_ok_iff.mp hb
    obtain ⟨hs, hb⟩ := require_eq_ok_iff.mp hb
    obtain ⟨hl, hb⟩ := require_eq_ok_iff.mp hb
    cases hb; exact .appendByte b rfl hv (List.length_pos_iff.mp hs) hl
  | encData =>
    refine outcome_of_rule (fun _ => rfl) h fun hb => ?_
    obtain ⟨hv, hb⟩ := requireSymbol_eq_ok_iff.mp hb
    obtain ⟨bb, hbb, rfl⟩ := except_map_eq_ok_iff.mp hb
    exact .dataBits bb rfl hv hbb
  | encRs =>
    refine outcome_of_rule (fun _ => rfl) h fun hb => ?_
    obtain ⟨hv, hb⟩ := requireSymbol_eq_ok_iff.mp hb
    obtain ⟨hl, hb⟩ := require_eq_ok_iff.mp hb
    obtain ⟨⟨dc, ec⟩, hc, rfl⟩ := except_map_eq_ok_iff.mp hb
    exact .blocks dc ec rfl hv hl hc
  | encIlv =>
    refine outcome_of_rule (fun _ => rfl) h fun hb => ?_
    obtain ⟨hv, hb⟩ := requireSymbol_eq_ok_iff.mp hb
    obtain ⟨hr, hb⟩ := require_eq_ok_iff.mp hb
    cases hb; exact .codewords rfl hv hr
  | mxClr =>
    refine outcome_of_rule (fun _ => rfl) h fun hb => ?_
    obtain ⟨hv, hb⟩ := requireSymbol_eq_ok_iff.mp hb
    cases hb; exact .matrix _ (by simp [Instr.opcode]) hv fun _ => squareMat_clearMat _
  | mxFinder | mxTiming | mxVersion =>
    refine outcome_of_rule (fun _ => rfl) h fun hb => ?_
    obtain ⟨hv, hb⟩ := requireSymbol_eq_ok_iff.mp hb
    cases hb; exact .matrix _ (by simp [Instr.opcode]) hv fun hm => squareMat_place hm _
  | mxAlign =>
    refine outcome_of_rule (fun _ => rfl) h fun hb => ?_
    obtain ⟨hv, hb⟩ := requireSymbol_eq_ok_iff.mp hb
    cases hb; exact .matrix _ (by simp [Instr.opcode]) hv fun hm => squareMat_alignAll hm _
  | mxFormat a b =>
    refine outcome_of_rule (fun _ => rfl) h fun hb => ?_
    obtain ⟨hv, hb⟩ := requireSymbol_eq_ok_iff.mp hb
    obtain ⟨-, hb⟩ := require_eq_ok_iff.mp hb
    cases hb; exact .matrix _ (by simp [Instr.opcode]) hv fun hm => squareMat_place hm _
  | mxData b =>
    refine outcome_of_rule (fun _ => rfl) h fun hb => ?_
    obtain ⟨hv, hb⟩ := requireSymbol_eq_ok_iff.mp hb
    obtain ⟨-, hb⟩ := require_eq_ok_iff.mp hb
    cases hb; exact .matrix _ (by simp [Instr.opcode]) hv fun hm => squareMat_placeData hm _ _
  | mxBuild a b =>
    refine outcome_of_rule (fun _ => rfl) h fun hb => ?_
    obtain ⟨hv, hb⟩ := requireSymbol_eq_ok_iff.mp hb
    obtain ⟨-, hb⟩ := require_eq_ok_iff.mp hb
    cases hb
    exact .matrix _ (by simp [Instr.opcode]) hv fun _ => n_of_cfgValid hv ▸ squareMat_buildMatrix _ _ _ _ _
  | msScore b =>
    refine outcome_of_rule (fun _ => rfl) h fun hb => ?_
    obtain ⟨hv, hb⟩ := requireSymbol_eq_ok_iff.mp hb
    obtain ⟨-, hb⟩ := require_eq_ok_iff.mp hb
    obtain ⟨-, hb⟩ := require_eq_ok_iff.mp hb
    cases hb; exact .score _ rfl hv
  | msSelect =>
    refine outcome_of_rule (fun _ => rfl) h fun hb => ?_
    obtain ⟨hv, hb⟩ := requireSymbol_eq_ok_iff.mp hb
    cases hb; exact .select rfl hv
  | build =>
    refine outcome_of_rule (fun _ => rfl) h fun hb => ?_
    obtain ⟨hv, hb⟩ := requireSymbol_eq_ok_iff.mp hb
    exact .build t rfl hv hb
  | rdDark a b =>
    refine outcome_of_rule (fun _ => rfl) h fun hb => ?_
    obtain ⟨hv, hb⟩ := requireSymbol_eq_ok_iff.mp hb
    obtain ⟨-, hb⟩ := require_eq_ok_iff.mp hb
    exact effect_of_lazyRead (by simp [Instr.opcode]) hv hb
  | rdMask =>
    refine outcome_of_rule (fun _ => rfl) h fun hb => ?_
    obtain ⟨hv, hb⟩ := requireSymbol_eq_ok_iff.mp hb
    exact effect_of_lazyRead (by simp [Instr.opcode]) hv hb

end Sys2Proof.Machine
end

section
/-! PROOFS. What a step can do, and the induction step of every invariant. -/

namespace Sys2Proof.Machine

/-- A field check that passes gives what it guards. -/
theorem ifZero_eq_ok {w : Word} {lo len : Nat} {r : Except IllegalReason Instr} {i : Instr}
    (h : ifZero w lo len r = .ok i) : r = .ok i := by
  unfold ifZero at h
  split at h
  · exact h
  · cases h

/-- The row of R89 that decodes a word is the row of its opcode byte (30_encoding.md R81, R89). -/
theorem opcode_of_decodeFields {w : Word} {i : Instr} (h : decodeFields w = .ok i) :
    i.opcode.toNat = (opcodeField w).toNat := by
  unfold decodeFields at h
  split at h <;>
    simp only [formatZ, formatB, formatAB, formatI, formatS, formatP, unusedPD, unusedPA, unusedPB, unusedImm,
      reduceCtorEq] at h
  all_goals
    repeat replace h := ifZero_eq_ok h
    cases h
    exact Eq.symm ‹_›

theorem opcodeField_toNat (w : Word) : (opcodeField w).toNat = w.toNat / 2 ^ 24 := by
  have := w.isLt
  simp only [opcodeField, BitVec.extractLsb'_toNat, Nat.shiftRight_eq_div_pow]
  omega

/-- The opcode byte of a legal word is the opcode of its command. -/
theorem opcode_of_decode {w : Word} {i : Instr} (h : decode w = .ok i) : i.opcode.toNat = w.toNat / 2 ^ 24 := by
  unfold decode checkRanges at h
  split at h
  · cases h
  · split at h
    · cases h
      rw [opcode_of_decodeFields ‹_›, opcodeField_toNat]
    · cases h

/-- Everything a word can do: nothing, record an error, or have its command's effect. -/
theorem runWord_cases {w : Word} {s t : State} (h : runWord w s = .next t) :
    t = s ∨ (∃ (e : ErrKind) (opc : Byte), t = { s with err := e.code, errOpc := opc }) ∨
      ∃ i, decode w = .ok i ∧ Effect i s t := by
  cases hw : decode w with
  | ok i =>
    rw [runWord_of_legal hw] at h
    cases exec_outcome h with
    | discarded => exact .inl rfl
    | succeeded he => exact .inr (.inr ⟨i, rfl, he⟩)
    | failed e => exact .inr (.inl ⟨e, _, rfl⟩)
  | error r =>
    rw [runWord_of_illegal hw] at h
    obtain ⟨rfl, -⟩ | hb | ⟨e, -, -, rfl⟩ := runCommand_cases h
    · exact .inl rfl
    · cases hb
    · exact .inr (.inl ⟨e, _, rfl⟩)

/-- Everything a bus event can do: change nothing but the record of the bus, reset the core, or run a command word. -/
theorem busEvent_cases {e : BusEvent} {s t : State} (h : busEvent e s = .next t) :
    (∃ r, t = { s with readData := r }) ∨ t = s.resetCore ∨ ∃ w, e = .write 4 0x00 w ∧ runWord w s = .next t := by
  cases e with
  | read bytes offset =>
    simp only [busEvent] at h
    split at h
    · cases h; exact .inl ⟨_, rfl⟩
    · cases h
  | write bytes offset data =>
    simp only [busEvent] at h
    split at h
    · rename_i ha
      obtain ⟨rfl, -⟩ : bytes = 4 ∧ _ := by simpa [accessAdmitted] using ha
      split at h
      · rename_i ho
        subst ho
        exact .inr (.inr ⟨data, rfl, h⟩)
      · cases h; exact .inl ⟨_, rfl⟩
    · cases h
  | resetInput => cases h; exact .inr (.inl rfl)
  | resetDuring cmd => cases h; exact .inr (.inl rfl)

/-- What holds in the reset state and is kept by the record of the bus, by the recording of an error and by the effect
of every command that may be next is kept by a step. -/
theorem step_preserves_of_next {Inv : State → Prop} {mayRun : Instr → Prop}
    (frame : ∀ s pending readData, Inv s → Inv { s with pending := pending, readData := readData })
    (reset : Inv State.reset)
    (error : ∀ s (e : ErrKind) opc, Inv s → Inv { s with err := e.code, errOpc := opc })
    (effect : ∀ i s t, mayRun i → Inv s → Effect i s t → Inv t)
    {s t : State} (hnext : ∀ w rest i, s.pending = .write 4 0x00 w :: rest → decode w = .ok i → mayRun i)
    (hs : Inv s) (h : step s = .next t) : Inv t := by
  cases hp : s.pending with
  | nil =>
    rw [step_of_idle hp] at h
    cases h; exact hs
  | cons e rest =>
    rw [step_of_pending hp] at h
    have hs' : Inv { s with pending := rest } := frame s rest s.readData hs
    obtain ⟨r, rfl⟩ | rfl | ⟨w, rfl, h⟩ := busEvent_cases h
    · exact frame s rest r hs
    · exact frame _ rest s.readData reset
    · obtain rfl | ⟨e, opc, rfl⟩ | ⟨i, hi, he⟩ := runWord_cases h
      · exact hs'
      · exact error _ e opc hs'
      · exact effect i _ t (hnext w rest i hp hi) hs' he

/-- The induction step of every invariant of the core. -/
theorem step_preserves {Inv : State → Prop}
    (frame : ∀ s pending readData, Inv s → Inv { s with pending := pending, readData := readData })
    (reset : Inv State.reset)
    (error : ∀ s (e : ErrKind) opc, Inv s → Inv { s with err := e.code, errOpc := opc })
    (effect : ∀ i s t, Inv s → Effect i s t → Inv t) {s t : State} (hs : Inv s) (h : step s = .next t) : Inv t :=
  step_preserves_of_next (mayRun := fun _ => True) frame reset error (fun i s t _ => effect i s t)
    (fun _ _ _ _ _ => trivial) hs h

/-- A build succeeds exactly when the segments fit and the blocks can be coded, and leaves the state of the four
commands it stands for with the cache valid (47_facade.md R290). -/
theorem buildSymbol_eq_ok_iff {s t : State} :
    s.buildSymbol = .ok t ↔
      ∃ bb dc ec, s.dataStream = .ok bb ∧ codeBlocks bb 0 (plan s.version.toNat s.ecl) = .ok (dc, ec) ∧
        (({ s with bb := bb }.setBlocks dc ec).setCw (interleave dc ec)).selectMask.markMatValid = t := by
  unfold State.buildSymbol
  cases hb : s.dataStream with
  | error e => simp [bind, Except.bind]
  | ok bb =>
    cases hc : codeBlocks bb 0 (plan s.version.toNat s.ecl) with
    | error e => simp [bind, Except.bind, hc]
    | ok blocks => simp [bind, Except.bind, hc, Prod.ext_iff]

end Sys2Proof.Machine
end

section
/-! PROOFS. The register window and the dispatch of a step (10_state.md R23 to R32, 20_memory.md R64 to R68). -/

namespace Sys2Proof.Machine

theorem flagBit_toNat (b : Bool) : (flagBit b).toNat = b.toNat := by cases b <;> rfl

/-- A field above the bits already there is added to them. -/
theorem or_shiftLeft_toNat {x y : Word} {k n : Nat} (hx : x.toNat < 2 ^ k) (hy : y.toNat = n) (hn : n * 2 ^ k < 2 ^ 32) :
    (x ||| y <<< k).toNat = x.toNat + n * 2 ^ k := by
  rw [BitVec.or_comm, Laws.or_toNat_of_lt (Laws.shiftLeft_toNat hy hn) hx, Nat.add_comm]

/-- STATUS as the sum of its fields, each at its place (10_state.md R24). -/
theorem status_toNat (s : State) :
    s.status.toNat = s.err.toNat + s.errOpc.toNat * 2 ^ 8 + s.cfgValid.toNat * 2 ^ 16 + s.matValid.toNat * 2 ^ 17 +
      s.rsValid.toNat * 2 ^ 18 := by
  have herr := s.err.isLt
  have hopc := s.errOpc.isLt
  have hcfg := s.cfgValid.toNat_le
  have hmat := s.matValid.toNat_le
  have hrs := s.rsValid.toNat_le
  have h₀ : (s.err.setWidth 32).toNat = s.err.toNat := by
    rw [BitVec.toNat_setWidth]; omega
  have h₁ := or_shiftLeft_toNat (x := s.err.setWidth 32) (k := 8) (by omega) (Laws.bitsB_toNat s.errOpc) (by omega)
  have h₂ := or_shiftLeft_toNat (k := 16) (h₁.trans_lt (by omega)) (flagBit_toNat s.cfgValid) (by omega)
  have h₃ := or_shiftLeft_toNat (k := 17) (h₂.trans_lt (by omega)) (flagBit_toNat s.matValid) (by omega)
  have h₄ := or_shiftLeft_toNat (k := 18) (h₃.trans_lt (by omega)) (flagBit_toNat s.rsValid) (by omega)
  rw [h₃, h₂, h₁, h₀] at h₄
  exact h₄

/-- A field of a word by the number of the word. -/
theorem extractLsb'_eq_of_toNat {x : Word} {lo len : Nat} {y : BitVec len} (h : x.toNat / 2 ^ lo % 2 ^ len = y.toNat) :
    x.extractLsb' lo len = y :=
  BitVec.eq_of_toNat_eq (by rw [BitVec.extractLsb'_toNat, Nat.shiftRight_eq_div_pow, h])

/-- A bit of a word by the number of the word. -/
theorem getLsbD_eq_of_toNat {x : Word} {i : Nat} {b : Bool} (h : x.toNat / 2 ^ i % 2 = b.toNat) : x.getLsbD i = b := by
  rw [BitVec.getLsbD, Nat.testBit_eq_decide_div_mod_eq, h]
  cases b <;> rfl

/-- Settles O11: the fields of STATUS are digits of the sum `status_toNat`. -/
theorem statusLayout : Obligations.StatusLayout := by
  intro s
  have hsum := status_toNat s
  have herr := s.err.isLt
  have hopc := s.errOpc.isLt
  have hcfg := s.cfgValid.toNat_le
  have hmat := s.matValid.toNat_le
  have hrs := s.rsValid.toNat_le
  refine ⟨extractLsb'_eq_of_toNat ?_, extractLsb'_eq_of_toNat ?_, extractLsb'_eq_of_toNat ?_, getLsbD_eq_of_toNat ?_,
    getLsbD_eq_of_toNat ?_, getLsbD_eq_of_toNat ?_, extractLsb'_eq_of_toNat ?_⟩
  case refine_2 | refine_7 =>
    change _ = 0
    omega
  all_goals omega

/-- Settles O5: by the rules of a step and of a legal word. -/
theorem stepRunsDecodedCommand : Obligations.StepRunsDecodedCommand := by
  intro s w i rest hp hw
  rw [step_of_command hp, runWord_of_legal hw]

/-- The word at each offset of the window (20_memory.md R64). -/
theorem readWindow_eq (s : State) (offset : Byte) :
    s.readWindow offset =
      if offset = 0x04 then s.status
      else if offset = 0x08 then s.result
      else if offset = 0x0C then 0x51524301
      else 0 := by
  have h (k : Byte) : offset = k ↔ offset.toNat = k.toNat := BitVec.toNat_inj.symm
  simp only [h, State.readWindow, Config.idValue]
  split <;> simp_all

theorem accessAdmitted_word {offset : Byte} (h : offset.toNat % 4 = 0) : accessAdmitted 4 offset = true := by
  simp [accessAdmitted, h]

/-- Settles O8, by the words of the window. -/
theorem registerWindow : Obligations.RegisterWindow := by
  intro s offset rest haligned
  have hadmitted := accessAdmitted_word haligned
  refine ⟨fun hp => ?_, fun data hp hcmd => ?_⟩
  · rw [step_of_pending hp]
    simp only [busEvent, hadmitted, if_true, readWindow_eq]
    rfl
  · rw [step_of_pending hp]
    simp only [busEvent, hadmitted, if_true]
    exact if_neg hcmd

end Sys2Proof.Machine
end

section
/-! PROOFS. Every step keeps the internal memories within their sizes (10_state.md R49 (a), (e)). -/

namespace Sys2Proof.Machine

theorem dataStream_length {s : State} {bb : List Bool} (h : s.dataStream = .ok bb) :
    bb.length = 8 * totalDataCount s.version.toNat s.ecl := assemble_length h

theorem dataStream_length_le {s : State} {bb : List Bool} (h : s.dataStream = .ok bb) : bb.length ≤ 32768 := by
  have := totalDataCount_le s.version.toNat s.ecl
  rw [dataStream_length h]; omega

/-- The blocks of a plan fit the codeword memories. -/
theorem codeBlocks_length_le {bb : List Bool} {v : Nat} {l : BitVec 2} {dc ec : List (List Byte)}
    (h : codeBlocks bb 0 (plan v l) = .ok (dc, ec)) :
    (dc.map List.length).sum + (ec.map List.length).sum ≤ 3706 :=
  (codeBlocks_length h (plan_data_le_total v l)).trans_le (totalCodewords_le v l)

theorem wf_buildSymbol {s t : State} (h : Memory.wf s) (hv : s.cfgValid = true) (hb : s.buildSymbol = .ok t) :
    Memory.wf t := by
  obtain ⟨bb, dc, ec, hbb, hc, rfl⟩ := buildSymbol_eq_ok_iff.mp hb
  have hlen := codeBlocks_length_le hc
  have hbits : Memory.wf { s with bb := bb } := wf_writeBb h (dataStream_length_le hbb)
  exact wf_markMatValid (wf_selectMask
    (wf_setCw (wf_setBlocks hbits hlen) ((interleave_length dc ec).trans_le hlen)) hv)

theorem effect_keeps_wf (i : Instr) (s t : State) (h : Memory.wf s) (he : Effect i s t) : Memory.wf t := by
  cases he with
  | nothing => exact h
  | clearError => exact wf_clearError h
  | reset => exact wf_resetCore
  | result v => exact wf_setResult h v
  | poly r l _ hl =>
    obtain ⟨-, -, -, -, -, -, hpoly, -⟩ := id h
    exact wf_setPoly h r (hl.elim id fun ⟨r', hr'⟩ => hr'.trans (hpoly r'))
  | clearBits => exact wf_writeBb h (Nat.zero_le _)
  | putBits bits _ hl => exact wf_writeBb h hl
  | dataBits bb _ _ hb => exact wf_writeBb h (dataStream_length_le hb)
  | configure v l => exact wf_configure h v l
  | openSegment _ _ hl => exact wf_openSegment h hl
  | appendByte b _ _ hs hl => exact wf_appendByte h b hs hl
  | blocks dc ec _ _ _ hb => exact wf_setBlocks h (codeBlocks_length_le hb)
  | codewords =>
    obtain ⟨-, -, -, -, hblocks, -⟩ := id h
    exact wf_setCw h ((interleave_length _ _).trans_le hblocks)
  | matrix m _ _ hm =>
    obtain ⟨-, -, -, -, -, -, -, hmat⟩ := id h
    exact wf_writeMat h (hm hmat)
  | score k => exact wf_setPen h _ _
  | select _ hv => exact wf_selectMask h hv
  | build t _ hv hb => exact wf_buildSymbol h hv hb
  | buildAndRead t v _ hv _ hb => exact wf_setResult (wf_buildSymbol h hv hb) v

/-- Settles O55, by the effects of the commands on the memories. -/
theorem stepKeepsMemoriesWellFormed : Obligations.StepKeepsMemoriesWellFormed := fun _ _ =>
  step_preserves (Inv := Memory.wf) (fun _ _ _ h => h) wf_reset (fun _ _ _ h => h) effect_keeps_wf

end Sys2Proof.Machine
end

section
/-! PROOFS. Every step keeps the error fields, the configuration and the RS flag legal (10_state.md R49 (b), (d)). -/

namespace Sys2Proof.Machine

theorem errKind_code_ne_zero (e : ErrKind) : e.code ≠ 0 := by cases e <;> decide

theorem statusWf_recorded {s : State} (h : s.statusWf) (e : ErrKind) (opc : Byte) :
    State.statusWf { s with err := e.code, errOpc := opc } := by
  obtain ⟨-, -, hrest⟩ := h
  exact ⟨(errKind_code_bounds e).2, fun he => absurd he (errKind_code_ne_zero e), hrest⟩

/-- With a symbol configured only the error fields, the version and the RS flag are at stake. -/
theorem statusWf_of_configured {s t : State} (h : s.statusWf) (hv : s.cfgValid = true) (herr : t.err = s.err)
    (hopc : t.errOpc = s.errOpc) (hver : t.version = s.version) (hcfg : t.cfgValid = s.cfgValid)
    (hrs : t.rsValid = true → t.bb.length = 8 * totalDataCount t.version.toNat t.ecl) : t.statusWf := by
  obtain ⟨h₁, h₂, h₃, -, -⟩ := h
  refine ⟨herr ▸ h₁, by rwa [herr, hopc], fun _ => ?_, fun hn => ?_, hrs⟩
  · rw [State.hasVersion, hver]; exact h₃ hv
  · rw [hcfg, hv] at hn; cases hn

theorem statusWf_buildSymbol {s t : State} (h : s.statusWf) (hv : s.cfgValid = true) (hb : s.buildSymbol = .ok t) :
    t.statusWf := by
  obtain ⟨bb, dc, ec, hbb, -, rfl⟩ := buildSymbol_eq_ok_iff.mp hb
  exact statusWf_of_configured h hv (by simp) (by simp) (by simp) (by simp) fun _ => by
    simpa using dataStream_length hbb

theorem statusWf_writeBb {s : State} (h : s.statusWf) (bb : List Bool) : (s.writeBb bb).statusWf := by
  obtain ⟨herr, hopc, hver, hnone, -⟩ := h
  refine ⟨herr, hopc, hver, fun hv => ?_, fun hr => by cases hr⟩
  obtain ⟨h₁, h₂, h₃, h₄, h₅, h₆, -⟩ := hnone hv
  exact ⟨h₁, h₂, h₃, h₄, h₅, h₆, rfl⟩

theorem effect_keeps_statusWf (i : Instr) (s t : State) (h : s.statusWf) (he : Effect i s t) : t.statusWf := by
  obtain ⟨herr, hopc, hver, hnone, hrs⟩ := id h
  cases he with
  | nothing | result | poly | score => exact h
  | clearError => exact ⟨Nat.zero_le _, fun _ => rfl, hver, hnone, hrs⟩
  | reset => exact (by decide : State.reset.statusWf)
  | clearBits | putBits | dataBits => exact statusWf_writeBb h _
  | configure v l _ hv => exact ⟨herr, hopc, fun _ => hv, by simp, by simp⟩
  | openSegment _ hv | appendByte _ _ hv | codewords _ hv | matrix _ _ hv =>
    exact statusWf_of_configured h hv rfl rfl rfl rfl hrs
  | blocks dc ec _ hv hl => exact statusWf_of_configured h hv rfl rfl rfl rfl fun _ => hl
  | select _ hv =>
    exact statusWf_of_configured h hv (by simp) (by simp) (by simp) (by simp) fun hr => by simpa using hrs (by simpa using hr)
  | build _ _ hv hb => exact statusWf_buildSymbol h hv hb
  | buildAndRead u _ _ hv _ hb => exact statusWf_buildSymbol (t := u) h hv hb

/-- Settles O56: only SYM_CFG writes the version, and every writer of `RS_VALID` has a buffer of the capacity. -/
theorem stepKeepsStatusWellFormed : Obligations.StepKeepsStatusWellFormed := fun _ _ =>
  step_preserves (Inv := State.statusWf) (fun _ _ _ h => h) (by decide) (fun _ e opc h => statusWf_recorded h e opc)
    effect_keeps_statusWf

end Sys2Proof.Machine
end

section
/-! PROOFS. Every step keeps the penalty records within their bounds (10_state.md R45). -/

namespace Sys2Proof.Machine

theorem sumRange_le {n k : Nat} {f : Nat → Nat} (h : ∀ i, f i ≤ k) : sumRange n f ≤ n * k := by
  have := List.sum_le_card_nsmul ((List.range n).map f) k fun x hx => by
    obtain ⟨i, -, rfl⟩ := List.mem_map.mp hx
    exact h i
  simpa [sumRange] using this

theorem mem_near_self (n r : Nat) : r ∈ near n r := by simp [near]

theorem near_length_le (n r : Nat) : (near n r).length ≤ 3 := by
  unfold near
  split <;> split <;> simp

/-- A cell has at most 8 neighbours: of the 9 cells of its block it is not one itself. -/
theorem sameNeighbours_le (m : Mat) (n r c : Nat) : sameNeighbours m n r c ≤ 8 := by
  have hblock : ((near n r).flatMap fun r' => (near n c).map fun c' => (r', c')).length ≤ 3 * 3 := by
    simp only [List.length_flatMap, List.length_map, List.map_const', List.sum_replicate, smul_eq_mul]
    exact Nat.mul_le_mul (near_length_le n r) (near_length_le n c)
  have hself : (r, c) ∈ (near n r).flatMap fun r' => (near n c).map fun c' => (r', c') := by
    simp [mem_near_self]
  have : sameNeighbours m n r c < _ := List.length_filter_lt_length_iff_exists.mpr ⟨(r, c), hself, by simp⟩
  omega

/-- The bounds of one penalty record of an `n × n` matrix (10_state.md R45). -/
abbrev Penalty.bounded (n : Nat) (p : Penalty) : Prop :=
  p.r1 ≤ 6 * (n * n) ∧ p.r2 ≤ 3 * ((n - 1) * (n - 1)) ∧ p.r3 ≤ 40 * (2 * (n * (n - 6))) ∧ p.dk ≤ n * n

theorem penaltiesBounded_iff {s : State} : s.penaltiesBounded ↔ ∀ m : Fin 8, s.pen[m].bounded s.n := Iff.rfl

theorem penaltyR1_le (m : Mat) (n : Nat) : penaltyR1 m n ≤ n * (n * 6) :=
  sumRange_le fun r => sumRange_le fun c => by
    have := sameNeighbours_le m n r c
    split <;> omega

theorem penaltyR2_le (m : Mat) (n : Nat) : penaltyR2 m n ≤ (n - 1) * ((n - 1) * 3) :=
  sumRange_le fun _ => sumRange_le fun _ => by split <;> omega

theorem penaltyR3_le (m : Mat) (n : Nat) : penaltyR3 m n ≤ n * ((n - 6) * 40) + n * ((n - 6) * 40) :=
  Nat.add_le_add (sumRange_le fun _ => sumRange_le fun _ => by split <;> omega)
    (sumRange_le fun _ => sumRange_le fun _ => by split <;> omega)

theorem darkCount_le (m : Mat) (n : Nat) : darkCount m n ≤ n * (n * 1) :=
  sumRange_le fun _ => sumRange_le fun _ => Bool.toNat_le _

theorem penalty_bounded (m : Mat) (n : Nat) : (penalty m n).bounded n := by
  refine ⟨(penaltyR1_le m n).trans_eq ?_, (penaltyR2_le m n).trans_eq ?_, (penaltyR3_le m n).trans_eq ?_,
    (darkCount_le m n).trans_eq ?_⟩ <;> ring

theorem trialPenalties_bounded (v : Nat) (ecl : BitVec 2) (cw : List Byte) (m : Fin 8) :
    (trialPenalties v ecl cw)[m].bounded (4 * v + 17) := by
  have : (trialPenalties v ecl cw)[m] = penalty (buildMatrix v ecl cw m.val true) (4 * v + 17) := by
    simp [trialPenalties]
  rw [this]; exact penalty_bounded _ _

theorem penaltiesBounded_replicate {s : State} (h : s.pen = Vector.replicate 8 ⟨0, 0, 0, 0⟩) : s.penaltiesBounded := by
  intro m; simp [h]

theorem penaltiesBounded_setPen {s : State} (h : s.penaltiesBounded) (k : Nat) {p : Penalty} (hp : p.bounded s.n) :
    (s.setPen k p).penaltiesBounded := by
  refine penaltiesBounded_iff.mpr fun m => ?_
  have hm : (s.setPen k p).pen[m] = if k = m then p else s.pen[m] := by
    simp [Vector.getElem_setIfInBounds]
  rw [hm, setPen_n]
  split
  · exact hp
  · exact h m

theorem penaltiesBounded_selectMask {s : State} (hv : s.cfgValid = true) : s.selectMask.penaltiesBounded := by
  refine penaltiesBounded_iff.mpr fun m => ?_
  rw [selectMask_pen, selectMask_n, n_of_cfgValid hv]
  exact trialPenalties_bounded _ _ _ m

theorem penaltiesBounded_markMatValid {s : State} (h : s.penaltiesBounded) : s.markMatValid.penaltiesBounded := h

theorem penaltiesBounded_buildSymbol {s t : State} (hv : s.cfgValid = true) (hb : s.buildSymbol = .ok t) :
    t.penaltiesBounded := by
  obtain ⟨bb, dc, ec, -, -, rfl⟩ := buildSymbol_eq_ok_iff.mp hb
  exact penaltiesBounded_markMatValid (penaltiesBounded_selectMask hv)

theorem effect_keeps_penaltiesBounded (i : Instr) (s t : State) (h : s.penaltiesBounded) (he : Effect i s t) :
    t.penaltiesBounded := by
  cases he with
  | nothing | clearError | result | poly | clearBits | putBits | dataBits | openSegment | appendByte | blocks
  | codewords | matrix => exact h
  | reset | configure => exact penaltiesBounded_replicate rfl
  | score k => exact penaltiesBounded_setPen h k (penalty_bounded s.mat s.n)
  | select _ hv => exact penaltiesBounded_selectMask hv
  | build _ _ hv hb => exact penaltiesBounded_buildSymbol hv hb
  | buildAndRead u _ _ hv _ hb => exact penaltiesBounded_buildSymbol (t := u) hv hb

/-- Settles O57: a record is 0, or the penalty of a matrix of the current module count. -/
theorem stepKeepsPenaltiesBounded : Obligations.StepKeepsPenaltiesBounded := fun _ _ =>
  step_preserves (Inv := State.penaltiesBounded) (fun _ _ _ h => h) (penaltiesBounded_replicate rfl) (fun _ _ _ h => h)
    effect_keeps_penaltiesBounded

end Sys2Proof.Machine
end

section
/-! PROOFS. Every step keeps the cached matrix the one BUILD would compute (10_state.md R49 (c), 47_facade.md R297). -/

namespace Sys2Proof.Machine

/-! ## The built matrix is complete -/

/-- A construction step never empties a cell. -/
def keepsFilled (m m' : Mat) : Prop := ∀ r c, getCell m r c ≠ .unset → getCell m' r c ≠ .unset

theorem keepsFilled.refl (m : Mat) : keepsFilled m m := fun _ _ h => h

theorem keepsFilled.trans {m₁ m₂ m₃ : Mat} (h : keepsFilled m₁ m₂) (h' : keepsFilled m₂ m₃) : keepsFilled m₁ m₃ :=
  fun r c hf => h' r c (h r c hf)

theorem keepsFilled_setu (m : Mat) (r c : Nat) (v : Cell) : keepsFilled m (setu m r c v) := by
  intro r' c' hf
  unfold setu
  split
  · rename_i hu
    have hne : (r, c) ≠ (r', c') := by rintro ⟨⟩; exact hf hu
    rwa [getCell_setCell_ne m hne]
  · exact hf

theorem shade_ne_unset (b : Bool) : shade b ≠ .unset := by cases b <;> decide

theorem setu_fills {n : Nat} {m : Mat} (h : squareMat n m) {r c : Nat} (hr : r < n) (hc : c < n) {v : Cell}
    (hv : v ≠ .unset) : getCell (setu m r c v) r c ≠ .unset := by
  rw [getCell_setu h hr hc]
  split
  · exact hv
  · rename_i hu
    simpa using hu

theorem keepsFilled_place (m : Mat) (ws : List CellWrite) : keepsFilled m (place m ws) := by
  induction ws generalizing m with
  | nil => exact .refl m
  | cons w ws ih => exact (keepsFilled_setu m _ _ _).trans (ih _)

theorem place_fills {n : Nat} {m : Mat} (h : squareMat n m) {ws : List CellWrite} {w : CellWrite} (hw : w ∈ ws)
    (hr : w.row < n) (hc : w.col < n) (hv : w.cell ≠ .unset) : getCell (place m ws) w.row w.col ≠ .unset := by
  induction ws generalizing m with
  | nil => cases hw
  | cons x ws ih =>
    obtain rfl | hw := List.mem_cons.mp hw
    · exact keepsFilled_place _ ws _ _ (setu_fills h hr hc hv)
    · exact ih (squareMat_setu h _ _ _) hw

/-- Data placement writes a cell as the other steps do. -/
theorem placeBit_fst (mask : Nat) (st : Mat × List Bool) (pos : Nat × Nat) :
    (placeBit mask st pos).1 = setu st.1 pos.1 pos.2 (shade (st.2.headD false ^^ maskBit mask pos.1 pos.2)) := by
  unfold placeBit setu
  split <;> rfl

theorem placeBits_fill {n mask : Nat} {st : Mat × List Bool} (h : squareMat n st.1) (ps : List (Nat × Nat)) :
    keepsFilled st.1 (ps.foldl (placeBit mask) st).1 ∧
      ∀ p ∈ ps, p.1 < n → p.2 < n → getCell (ps.foldl (placeBit mask) st).1 p.1 p.2 ≠ .unset := by
  induction ps generalizing st with
  | nil => exact ⟨.refl _, fun _ hp => by cases hp⟩
  | cons q ps ih =>
    have hstep := placeBit_fst mask st q
    have hsq : squareMat n (placeBit mask st q).1 := hstep ▸ squareMat_setu h _ _ _
    have hkeep : keepsFilled st.1 (placeBit mask st q).1 := hstep ▸ keepsFilled_setu _ _ _ _
    obtain ⟨hk, hf⟩ := ih hsq
    refine ⟨hkeep.trans hk, fun p hp hr hc => ?_⟩
    obtain rfl | hp := List.mem_cons.mp hp
    · refine hk _ _ ?_
      rw [hstep]
      exact setu_fills h hr hc (shade_ne_unset _)
    · exact hf p hp hr hc

/-- The strips cover every column up to the first but column 6 (45_matrix.md R245). -/
theorem exists_strip {fuel col c : Nat} (hfuel : col ≤ fuel) (hcol : col % 2 = 0 ∧ 6 ≤ col ∨ col % 2 = 1 ∧ col ≤ 3)
    (hc : c ≤ col) (h6 : c ≠ 6) : ∃ k ∈ stripColumns fuel col, c = k ∨ c = k - 1 := by
  induction fuel generalizing col with
  | zero => omega
  | succ fuel ih =>
    have hcol0 : col ≠ 0 := by omega
    obtain ⟨right, hright, hhead⟩ : ∃ right, right = (if col = 6 then 5 else col) ∧
        stripColumns (fuel + 1) col = right :: stripColumns fuel (right - 2) := ⟨_, rfl, by simp [stripColumns, hcol0]⟩
    rw [hhead]
    by_cases hnow : c = right ∨ c = right - 1
    · exact ⟨right, List.mem_cons_self, hnow⟩
    · obtain ⟨k, hk, hck⟩ := ih (col := right - 2) (by split at hright <;> omega) (by split at hright <;> omega)
        (by split at hright <;> omega)
      exact ⟨k, List.mem_cons_of_mem _ hk, hck⟩

theorem mem_walkStrips {n r c : Nat} (hr : r < n) {cols : List Nat} {k : Nat} (hk : k ∈ cols) (hc : c = k ∨ c = k - 1)
    (upward : Bool) : (r, c) ∈ walkStrips n cols upward := by
  induction cols generalizing upward with
  | nil => cases hk
  | cons x cols ih =>
    rw [walkStrips, List.mem_append]
    obtain rfl | hk := List.mem_cons.mp hk
    · left
      have hmem : r ∈ (if upward then (List.range n).reverse else List.range n) := by
        split <;> simpa using hr
      refine List.mem_flatMap.mpr ⟨r, hmem, ?_⟩
      simpa using hc
    · exact .inr (ih hk _)

/-- Data placement visits every cell outside column 6 (45_matrix.md R245). -/
theorem mem_zigzag {v r c : Nat} (hr : r < 4 * v + 17) (hc : c < 4 * v + 17) (h6 : c ≠ 6) :
    (r, c) ∈ zigzag (4 * v + 17) := by
  obtain ⟨k, hk, hck⟩ := exists_strip (fuel := 4 * v + 17) (col := 4 * v + 17 - 1) (c := c)
    (by omega) (by omega) (by omega) h6
  exact mem_walkStrips hr hk hck true

theorem placeData_fills {n k : Nat} {m : Mat} (h : squareMat n m) (cw : List Byte) (mask : Nat) :
    keepsFilled m (placeData k cw mask m) ∧
      ∀ p ∈ zigzag k, p.1 < n → p.2 < n → getCell (placeData k cw mask m) p.1 p.2 ≠ .unset :=
  placeBits_fill (st := (m, codewordBits cw)) h (zigzag k)

/-- The timing patterns fill column 6, data placement every other column (45_matrix.md R239, R245). -/
theorem timing_and_data_fill {v : Nat} {m : Mat} (h : squareMat (4 * v + 17) m) (format version : List CellWrite)
    (cw : List Byte) (mask : Nat) {r c : Nat} (hr : r < 4 * v + 17) (hc : c < 4 * v + 17) :
    getCell (placeData (4 * v + 17) cw mask (place (place (place m (timingWrites (4 * v + 17))) format) version)) r c
      ≠ .unset := by
  have hsq := squareMat_place (squareMat_place (squareMat_place h (timingWrites (4 * v + 17))) format) version
  obtain ⟨hkeep, hfill⟩ := placeData_fills (k := 4 * v + 17) hsq cw mask
  by_cases h6 : c = 6
  · subst h6
    have hw : ⟨r, 6, shade (r % 2 == 0)⟩ ∈ timingWrites (4 * v + 17) := by simp [timingWrites, hr]
    have htiming : getCell (place m (timingWrites (4 * v + 17))) r 6 ≠ .unset :=
      place_fills h hw hr hc (shade_ne_unset _)
    exact hkeep _ _ (keepsFilled_place _ _ _ _ (keepsFilled_place _ _ _ _ htiming))
  · exact hfill (r, c) (mem_zigzag hr hc h6) hr hc

theorem ne_unset_of_getCell {n : Nat} {m : Mat} (h : squareMat n m)
    (hf : ∀ r c, r < n → c < n → getCell m r c ≠ .unset) : ∀ row ∈ m, ∀ cell ∈ row, cell ≠ .unset := by
  intro row hrow cell hcell
  obtain ⟨r, hr, rfl⟩ := List.mem_iff_getElem.mp hrow
  obtain ⟨c, hc, rfl⟩ := List.mem_iff_getElem.mp hcell
  have hcn : c < n := h.2 _ hrow ▸ hc
  simpa [getCell, hr, hc] using hf r c (h.1 ▸ hr) hcn

/-- The six steps of a build leave no cell unset (45_matrix.md R247, R249). -/
theorem buildMatrix_complete (v : Nat) (ecl : BitVec 2) (cw : List Byte) (mask : Nat) (trial : Bool) :
    ∀ row ∈ buildMatrix v ecl cw mask trial, ∀ cell ∈ row, cell ≠ .unset :=
  ne_unset_of_getCell (squareMat_buildMatrix v ecl cw mask trial) fun _ _ =>
    timing_and_data_fill (squareMat_alignAll (squareMat_place (squareMat_clearMat _) _) v) _ _ cw mask

/-! ## The cache -/

/-- The choice of a mask depends on `VERSION`, `ECL` and `CW` of a configured symbol alone (46_mask.md R278). -/
theorem chosenMask_congr {s s' : State} (hcfg : s'.cfgValid = s.cfgValid) (hver : s'.version = s.version)
    (hecl : s'.ecl = s.ecl) (hcw : s'.cw = s.cw) : s'.chosenMask = s.chosenMask := by
  unfold State.chosenMask State.n
  rw [hcfg, hver, hecl, hcw]

theorem selectMask_congr {s s' : State} (hcfg : s'.cfgValid = s.cfgValid) (hver : s'.version = s.version)
    (hecl : s'.ecl = s.ecl) (hcw : s'.cw = s.cw) :
    s'.selectMask.mat = s.selectMask.mat ∧ s'.selectMask.sel = s.selectMask.sel := by
  simp [chosenMask_congr hcfg hver hecl hcw, hver, hecl, hcw]

/-- A build depends on the configuration and the segments alone (47_facade.md R297). -/
theorem buildSymbol_congr {s s' t : State} (hcfg : s'.cfgValid = s.cfgValid) (hver : s'.version = s.version)
    (hecl : s'.ecl = s.ecl) (hpay : s'.pay = s.pay) (hseg : s'.seg = s.seg) (hb : s.buildSymbol = .ok t) :
    ∃ t', s'.buildSymbol = .ok t' ∧ t'.err = s'.err ∧ t'.mat = t.mat ∧ t'.sel = t.sel := by
  obtain ⟨bb, dc, ec, hbb, hc, rfl⟩ := buildSymbol_eq_ok_iff.mp hb
  have hbb' : s'.dataStream = .ok bb := by rw [← hbb]; simp [State.dataStream, hver, hecl, hpay, hseg]
  have hc' : codeBlocks bb 0 (plan s'.version.toNat s'.ecl) = .ok (dc, ec) := by rw [hver, hecl, hc]
  refine ⟨_, buildSymbol_eq_ok_iff.mpr ⟨bb, dc, ec, hbb', hc', rfl⟩, by simp, ?_⟩
  rw [markMatValid_mat, markMatValid_mat, markMatValid_sel, markMatValid_sel]
  exact selectMask_congr hcfg hver hecl rfl

/-- A build keeps the configuration and the segments, and leaves a complete matrix. -/
theorem buildSymbol_frame {s t : State} (hb : s.buildSymbol = .ok t) :
    t.cfgValid = s.cfgValid ∧ t.version = s.version ∧ t.ecl = s.ecl ∧ t.pay = s.pay ∧ t.seg = s.seg ∧
      ∀ row ∈ t.mat, ∀ cell ∈ row, cell ≠ .unset := by
  obtain ⟨bb, dc, ec, -, -, rfl⟩ := buildSymbol_eq_ok_iff.mp hb
  refine ⟨by simp, by simp, by simp, by simp, by simp, ?_⟩
  rw [markMatValid_mat, selectMask_mat]
  exact buildMatrix_complete _ _ _ _ _

theorem exec_build (s : State) : exec .build s = runCommand 0x70 (fun s => requireSymbol s s.buildSymbol) s := rfl

/-- BUILD succeeds exactly when a symbol is configured and its build does. -/
theorem exec_build_eq_next_iff {s t : State} (he : s.err = 0) :
    exec .build s = .next t ∧ t.err = 0 ↔ s.cfgValid = true ∧ s.buildSymbol = .ok t ∧ t.err = 0 := by
  rw [exec_build]
  constructor
  · rintro ⟨h, ht⟩
    obtain ⟨-, hne⟩ | hb | ⟨e, -, -, rfl⟩ := runCommand_cases h
    · exact absurd he hne
    · exact ⟨(requireSymbol_eq_ok_iff.mp hb).1, (requireSymbol_eq_ok_iff.mp hb).2, ht⟩
    · exact absurd ht (errKind_code_ne_zero e)
  · rintro ⟨hv, hb, ht⟩
    exact ⟨runCommand_of_ok he (requireSymbol_eq_ok_iff.mpr ⟨hv, hb⟩), ht⟩

/-- The invariant in terms of the build itself, the error fields aside. -/
theorem cacheCoherent_iff {s : State} :
    s.cacheCoherent ↔ (s.matValid = true → s.cfgValid = true ∧ (∀ row ∈ s.mat, ∀ cell ∈ row, cell ≠ .unset) ∧
      ∃ t, s.buildSymbol = .ok t ∧ t.mat = s.mat ∧ t.sel = s.sel) := by
  refine forall_congr' fun _ => and_congr_right fun hv => and_congr_right fun _ => ?_
  change (∃ t, exec .build s.clearError = .next t ∧ t.err = 0 ∧ t.mat = s.mat ∧ t.sel = s.sel) ↔ _
  constructor
  · rintro ⟨t, hexec, ht, hmat, hsel⟩
    obtain ⟨-, hb, -⟩ := (exec_build_eq_next_iff (clearError_err s)).mp ⟨hexec, ht⟩
    obtain ⟨u, hu, -, humat, husel⟩ := buildSymbol_congr (s := s.clearError) (s' := s) rfl rfl rfl rfl rfl hb
    exact ⟨u, hu, humat.trans hmat, husel.trans hsel⟩
  · rintro ⟨t, hb, hmat, hsel⟩
    obtain ⟨u, hu, huerr, humat, husel⟩ := buildSymbol_congr (s := s) (s' := s.clearError) rfl rfl rfl rfl rfl hb
    obtain ⟨hexec, -⟩ := (exec_build_eq_next_iff (clearError_err s)).mpr ⟨hv, hu, huerr⟩
    exact ⟨u, hexec, huerr, humat.trans hmat, husel.trans hsel⟩

theorem cacheCoherent_of_not_matValid {s : State} (h : s.matValid = false) : s.cacheCoherent :=
  fun hm => by rw [h] at hm; cases hm

/-- A command that leaves the flag, the configuration, the segments, the matrix and the mask leaves the cache
coherent. -/
theorem cacheCoherent_of_frame {s t : State} (h : s.cacheCoherent) (hflag : t.matValid = s.matValid)
    (hcfg : t.cfgValid = s.cfgValid) (hver : t.version = s.version) (hecl : t.ecl = s.ecl) (hpay : t.pay = s.pay)
    (hseg : t.seg = s.seg) (hmat : t.mat = s.mat) (hsel : t.sel = s.sel) : t.cacheCoherent := by
  rw [cacheCoherent_iff] at h ⊢
  intro hm
  obtain ⟨hv, hcomplete, u, hb, humat, husel⟩ := h (hflag ▸ hm)
  obtain ⟨u', hb', -, humat', husel'⟩ := buildSymbol_congr hcfg hver hecl hpay hseg hb
  exact ⟨hcfg ▸ hv, hmat ▸ hcomplete, u', hb', by rw [humat', humat, hmat], by rw [husel', husel, hsel]⟩

/-- What a build leaves is coherent: building again gives the same (47_facade.md R297). -/
theorem cacheCoherent_buildSymbol {s t : State} (hv : s.cfgValid = true) (hb : s.buildSymbol = .ok t) :
    t.cacheCoherent := by
  obtain ⟨hcfg, hver, hecl, hpay, hseg, hcomplete⟩ := buildSymbol_frame hb
  obtain ⟨u, hb', -, humat, husel⟩ := buildSymbol_congr hcfg hver hecl hpay hseg hb
  exact cacheCoherent_iff.mpr fun _ => ⟨hcfg ▸ hv, hcomplete, u, hb', humat, husel⟩

theorem effect_keeps_cacheCoherent (i : Instr) (s t : State) (h : s.cacheCoherent) (he : Effect i s t) :
    t.cacheCoherent := by
  cases he with
  | nothing => exact h
  | clearError | result | poly | clearBits | putBits | dataBits | blocks | codewords | score =>
    exact cacheCoherent_of_frame h rfl rfl rfl rfl rfl rfl rfl rfl
  | reset | configure | openSegment | appendByte | matrix => exact cacheCoherent_of_not_matValid rfl
  | select => exact cacheCoherent_of_not_matValid (selectMask_matValid s)
  | build _ _ hv hb => exact cacheCoherent_buildSymbol hv hb
  | buildAndRead u _ _ hv _ hb =>
    exact cacheCoherent_of_frame (cacheCoherent_buildSymbol hv hb) rfl rfl rfl rfl rfl rfl rfl rfl

/-- Settles O58: a build depends on what clears the cache alone, and leaves a complete matrix. -/
theorem stepKeepsCacheCoherent : Obligations.StepKeepsCacheCoherent := fun _ _ =>
  step_preserves (Inv := State.cacheCoherent) (fun _ _ _ h => cacheCoherent_of_frame h rfl rfl rfl rfl rfl rfl rfl rfl)
    (cacheCoherent_of_not_matValid rfl) (fun _ _ _ h => cacheCoherent_of_frame h rfl rfl rfl rfl rfl rfl rfl rfl)
    effect_keeps_cacheCoherent

end Sys2Proof.Machine
end

section
/-! PROOFS. The state after reset (10_state.md R50). -/

namespace Sys2Proof.Machine

theorem exec_softReset (s : State) : exec .softReset s = .next s.resetCore :=
  show execSoftReset s = _ from runCommand_of_executes rfl rfl

/-- Settles O54, field by field. -/
theorem resetState : Obligations.ResetState :=
  ⟨rfl, rfl, rfl, rfl, rfl, rfl, rfl, rfl, rfl, rfl, rfl, rfl, rfl, by decide, rfl, rfl, rfl, by decide,
    fun s => ⟨_, exec_softReset s, rfl⟩, wf_reset, by decide, penaltiesBounded_replicate rfl,
    cacheCoherent_of_not_matValid rfl⟩

end Sys2Proof.Machine
end

section
/-! PROOFS. The bit buffer without a symbol (10_state.md R49 (b), assumption 6). -/

namespace Sys2Proof.Machine

/-- The clause of 10_state.md R49 (b) that only BB_PUT and BB_PUTBIT break (assumption 6): without a symbol the bit
buffer is empty. -/
def State.bufferNeedsSymbol (s : State) : Prop := s.cfgValid = false → s.bb = []

theorem bufferNeedsSymbol_of_configured {s : State} (h : s.cfgValid = true) : s.bufferNeedsSymbol :=
  fun hn => by rw [h] at hn; cases hn

theorem effect_keeps_bufferNeedsSymbol (i : Instr) (s t : State) (hi : i.opcode ∉ [0x31, 0x32])
    (h : s.bufferNeedsSymbol) (he : Effect i s t) : t.bufferNeedsSymbol := by
  cases he with
  | nothing | clearError | result | poly | openSegment | appendByte | blocks | codewords | matrix | score => exact h
  | reset | clearBits | configure => exact fun _ => rfl
  | putBits _ hop => exact absurd hop hi
  | dataBits _ _ hv => exact bufferNeedsSymbol_of_configured hv
  | select _ hv => exact bufferNeedsSymbol_of_configured ((selectMask_cfgValid s).trans hv)
  | build _ _ hv hb => exact bufferNeedsSymbol_of_configured ((buildSymbol_frame hb).1.trans hv)
  | buildAndRead u _ _ hv _ hb =>
    exact bufferNeedsSymbol_of_configured (s := u) ((buildSymbol_frame hb).1.trans hv)

theorem step_keeps_bufferNeedsSymbol {s t : State} (hs : s.bufferNeedsSymbol)
    (hnext : ∀ w rest, s.pending = .write 4 0x00 w :: rest → w.toNat / 2 ^ 24 ∉ [0x31, 0x32]) (h : step s = .next t) :
    t.bufferNeedsSymbol := by
  refine step_preserves_of_next (Inv := State.bufferNeedsSymbol) (mayRun := fun i => i.opcode ∉ [0x31, 0x32])
    (fun _ _ _ h => h) (fun _ => rfl) (fun _ _ _ h => h) effect_keeps_bufferNeedsSymbol ?_ hs h
  intro w rest i hp hw
  have hopc := hnext w rest hp
  rw [← opcode_of_decode hw] at hopc
  simpa [← BitVec.toNat_inj] using hopc

/-- A put that finds room appends its bits, without a symbol too (43_bitbuffer.md R163, R164). -/
theorem exec_put_of_room {i : Instr} {s : State} {n : Nat} {bits : List Bool} (hs : s.unconfigured)
    (hi : exec i s = runCommand i.opcode
      (fun s => require (s.bb.length + n ≤ Config.bbCapBits) .resourceLimit (.ok (s.writeBb (s.bb ++ bits)))) s)
    (hn : s.bb.length + n ≤ 32768) (hbits : bits ≠ []) : ∃ t, exec i s = .next t ∧ t.unconfigured ∧ t.bb ≠ [] :=
  ⟨_, hi.trans (runCommand_of_ok hs.1 (require_of_true hn _ _)), hs, by simp [hbits]⟩

/-- Settles O60: by the step invariant `bufferNeedsSymbol`, and the run of the two commands that break it. -/
theorem bufferEmptyUntilPutWithoutSymbol : Obligations.BufferEmptyUntilPutWithoutSymbol := by
  refine ⟨fun s t hs hnext h => step_keeps_bufferNeedsSymbol hs hnext h, fun i s hwf hi hs hsize hroom => ?_⟩
  cases i with
  | bbPut size val =>
    have hle : size.toNat ≤ 16 := by simpa [Instr.wellFormed] using hwf
    have hne : size.toNat ≠ 0 := fun h0 => hsize val (by rw [BitVec.eq_of_toNat_eq (y := 0) h0])
    refine exec_put_of_room hs rfl (n := size.toNat) (by omega) fun h => hne ?_
    simpa using congrArg List.length h
  | bbPutBit b => exact exec_put_of_room hs rfl (n := 1) (bits := [b == 1]) (by omega) (by simp)
  | _ => simp [Instr.opcode] at hi

end Sys2Proof.Machine
end

section
/-! PROOFS. The accesses the window refuses (20_memory.md R65). -/

namespace Sys2Proof.Machine

theorem accessAdmitted_eq_false {bytes : Nat} {offset : Byte} (h : bytes ≠ 4 ∨ offset.toNat % 4 ≠ 0) :
    accessAdmitted bytes offset = false := by
  rw [accessAdmitted, Bool.and_eq_false_iff]
  simpa using h

/-- Settles O9: the window admits neither the read nor the write. -/
theorem malformedAccessRefused : Obligations.MalformedAccessRefused := by
  intro s bytes offset data rest hbad hp
  have hrejected := accessAdmitted_eq_false hbad
  obtain hp | hp := hp
  all_goals
    rw [step_of_pending hp]
    simp [busEvent, hrejected]

end Sys2Proof.Machine
end

section
/-! PROOFS. Which commands write which field (10_state.md R23, R34, R39 to R46, 20_memory.md R61, 47_facade.md R297). -/

namespace Sys2Proof.Machine

/-! ### The opcode bytes of the commands that `Effect` names by themselves -/

@[simp] theorem opcode_nop : Instr.nop.opcode = 0x00 := rfl
@[simp] theorem opcode_errClr : Instr.errClr.opcode = 0x01 := rfl
@[simp] theorem opcode_softReset : Instr.softReset.opcode = 0x02 := rfl
@[simp] theorem opcode_bbClr : Instr.bbClr.opcode = 0x30 := rfl
@[simp] theorem opcode_segBegin : Instr.segBegin.opcode = 0x41 := rfl
@[simp] theorem opcode_segByte (b : Byte) : (Instr.segByte b).opcode = 0x42 := rfl
@[simp] theorem opcode_encData : Instr.encData.opcode = 0x43 := rfl
@[simp] theorem opcode_encRs : Instr.encRs.opcode = 0x44 := rfl
@[simp] theorem opcode_encIlv : Instr.encIlv.opcode = 0x45 := rfl
@[simp] theorem opcode_msSelect : Instr.msSelect.opcode = 0x61 := rfl
@[simp] theorem opcode_build : Instr.build.opcode = 0x70 := rfl

/-- The commands of a list are among those of a longer list. -/
theorem opcode_mem_mono {i : Instr} {A B : List Byte} (h : i.opcode ∈ A) (hAB : A ⊆ B) : i.opcode ∈ B := hAB h

/-- A build keeps the polynomials and the record of the bus; what else it keeps is `buildSymbol_frame`. -/
theorem buildSymbol_keeps_poly_and_bus {s t : State} (hb : s.buildSymbol = .ok t) :
    t.poly = s.poly ∧ t.pending = s.pending ∧ t.readData = s.readData := by
  obtain ⟨bb, dc, ec, -, -, rfl⟩ := buildSymbol_eq_ok_iff.mp hb
  simp

section Frame

variable {i : Instr} {s t : State}

/-! ### One rule per field: the named cases are the effects that change it, each of a command the list holds -/

theorem effect_keeps_configuration (he : Effect i s t) (hi : i.opcode ∉ [0x02, 0x40]) :
    t.version = s.version ∧ t.ecl = s.ecl ∧ t.cfgValid = s.cfgValid := by
  cases he with
  | reset hw | configure _ _ hw => exact absurd (by simp [hw]) hi
  | select => simp
  | build _ _ _ hb | buildAndRead _ _ _ _ _ hb =>
    obtain ⟨hcfg, hver, hecl, -⟩ := buildSymbol_frame hb
    exact ⟨hver, hecl, hcfg⟩
  | _ => exact ⟨rfl, rfl, rfl⟩

theorem effect_keeps_segments (he : Effect i s t) (hi : i.opcode ∉ [0x02, 0x40, 0x41, 0x42]) :
    t.pay = s.pay ∧ t.seg = s.seg := by
  cases he with
  | reset hw | configure _ _ hw | openSegment hw | appendByte _ hw => exact absurd (by simp [hw]) hi
  | select => simp
  | build _ _ _ hb | buildAndRead _ _ _ _ _ hb =>
    obtain ⟨-, -, -, hpay, hseg, -⟩ := buildSymbol_frame hb
    exact ⟨hpay, hseg⟩
  | _ => exact ⟨rfl, rfl⟩

theorem effect_keeps_bits (he : Effect i s t)
    (hi : i.opcode ∉ [0x02, 0x30, 0x31, 0x32, 0x40, 0x43, 0x70, 0x72, 0x73]) : t.bb = s.bb := by
  cases he with
  | reset hw | clearBits hw | dataBits _ hw | configure _ _ hw | build _ hw => exact absurd (by simp [hw]) hi
  | putBits _ hw | buildAndRead _ _ hw => exact absurd (opcode_mem_mono hw (by decide)) hi
  | select => simp
  | _ => rfl

theorem effect_keeps_blocks (he : Effect i s t) (hi : i.opcode ∉ [0x02, 0x40, 0x44, 0x70, 0x72, 0x73]) :
    t.dc = s.dc ∧ t.ec = s.ec := by
  cases he with
  | reset hw | configure _ _ hw | blocks _ _ hw | build _ hw => exact absurd (by simp [hw]) hi
  | buildAndRead _ _ hw => exact absurd (opcode_mem_mono hw (by decide)) hi
  | select => simp
  | _ => exact ⟨rfl, rfl⟩

theorem effect_keeps_codewords (he : Effect i s t) (hi : i.opcode ∉ [0x02, 0x40, 0x45, 0x70, 0x72, 0x73]) :
    t.cw = s.cw := by
  cases he with
  | reset hw | configure _ _ hw | codewords hw | build _ hw => exact absurd (by simp [hw]) hi
  | buildAndRead _ _ hw => exact absurd (opcode_mem_mono hw (by decide)) hi
  | select => simp
  | _ => rfl

theorem effect_keeps_poly (he : Effect i s t) (hi : i.opcode ∉ [0x02, 0x20, 0x21, 0x22, 0x23, 0x24, 0x25]) :
    t.poly = s.poly := by
  cases he with
  | reset hw => exact absurd (by simp [hw]) hi
  | poly _ _ hw => exact absurd (opcode_mem_mono hw (by decide)) hi
  | select => simp
  | build _ _ _ hb | buildAndRead _ _ _ _ _ hb => exact (buildSymbol_keeps_poly_and_bus hb).1
  | _ => rfl

theorem effect_keeps_matrix (he : Effect i s t)
    (hi : i.opcode ∉ [0x02, 0x40, 0x50, 0x51, 0x52, 0x53, 0x54, 0x55, 0x56, 0x57, 0x61, 0x70, 0x72, 0x73]) :
    t.mat = s.mat := by
  cases he with
  | reset hw | configure _ _ hw | select hw | build _ hw => exact absurd (by simp [hw]) hi
  | matrix _ hw | buildAndRead _ _ hw => exact absurd (opcode_mem_mono hw (by decide)) hi
  | _ => rfl

theorem effect_keeps_penalties (he : Effect i s t)
    (hi : i.opcode ∉ [0x02, 0x40, 0x60, 0x61, 0x70, 0x72, 0x73]) : t.pen = s.pen := by
  cases he with
  | reset hw | configure _ _ hw | score _ hw | select hw | build _ hw => exact absurd (by simp [hw]) hi
  | buildAndRead _ _ hw => exact absurd (opcode_mem_mono hw (by decide)) hi
  | _ => rfl

theorem effect_keeps_sel (he : Effect i s t) (hi : i.opcode ∉ [0x02, 0x40, 0x61, 0x70, 0x72, 0x73]) :
    t.sel = s.sel := by
  cases he with
  | reset hw | configure _ _ hw | select hw | build _ hw => exact absurd (by simp [hw]) hi
  | buildAndRead _ _ hw => exact absurd (opcode_mem_mono hw (by decide)) hi
  | _ => rfl

theorem effect_keeps_result (he : Effect i s t)
    (hi : i.opcode ∉ [0x02, 0x03, 0x10, 0x11, 0x12, 0x13, 0x14, 0x15, 0x26, 0x27, 0x33, 0x34, 0x35, 0x46, 0x47, 0x48,
      0x49, 0x58, 0x61, 0x62, 0x70, 0x71, 0x72, 0x73, 0x74]) : t.result = s.result := by
  cases he with
  | reset hw | select hw | build _ hw => exact absurd (by simp [hw]) hi
  | result _ hw | buildAndRead _ _ hw => exact absurd (opcode_mem_mono hw (by decide)) hi
  | _ => rfl

theorem effect_keeps_matValid (he : Effect i s t)
    (hi : i.opcode ∉ [0x02, 0x40, 0x41, 0x42, 0x50, 0x51, 0x52, 0x53, 0x54, 0x55, 0x56, 0x57, 0x61, 0x70, 0x72, 0x73]) :
    t.matValid = s.matValid := by
  cases he with
  | reset hw | configure _ _ hw | openSegment hw | appendByte _ hw | select hw | build _ hw =>
    exact absurd (by simp [hw]) hi
  | matrix _ hw | buildAndRead _ _ hw => exact absurd (opcode_mem_mono hw (by decide)) hi
  | _ => rfl

theorem effect_keeps_rsValid (he : Effect i s t)
    (hi : i.opcode ∉ [0x02, 0x30, 0x31, 0x32, 0x40, 0x43, 0x44, 0x70, 0x72, 0x73]) : t.rsValid = s.rsValid := by
  cases he with
  | reset hw | clearBits hw | dataBits _ hw | configure _ _ hw | blocks _ _ hw | build _ hw =>
    exact absurd (by simp [hw]) hi
  | putBits _ hw | buildAndRead _ _ hw => exact absurd (opcode_mem_mono hw (by decide)) hi
  | select => simp
  | _ => rfl

theorem effect_keeps_bus (he : Effect i s t) : t.pending = s.pending ∧ t.readData = s.readData := by
  cases he with
  | select => simp
  | build _ _ _ hb | buildAndRead _ _ _ _ _ hb => exact (buildSymbol_keeps_poly_and_bus hb).2
  | _ => exact ⟨rfl, rfl⟩

/-! ### The cache and the flags -/

/-- Every other effect that touches the flag clears it (10_state.md R43). -/
theorem effect_sets_matValid (he : Effect i s t) (ht : t.matValid = true) (hs : s.matValid = false) :
    i.opcode ∈ [0x70, 0x72, 0x73] := by
  cases he with
  | build _ hw => simp [hw]
  | buildAndRead _ _ hw => exact opcode_mem_mono hw (by decide)
  | reset | configure | openSegment | appendByte | matrix => cases ht
  | select => exact absurd ht (by simp)
  | _ => exact absurd (hs.symm.trans ht) Bool.false_ne_true

/-- Every other effect that touches the flag clears it (10_state.md R39). -/
theorem effect_sets_rsValid (he : Effect i s t) (ht : t.rsValid = true) (hs : s.rsValid = false) :
    i.opcode ∈ [0x44, 0x70, 0x72, 0x73] := by
  cases he with
  | blocks _ _ hw | build _ hw => simp [hw]
  | buildAndRead _ _ hw => exact opcode_mem_mono hw (by decide)
  | reset | clearBits | putBits | dataBits | configure => cases ht
  | select => exact absurd ht (by simp [hs])
  | _ => exact absurd (hs.symm.trans ht) Bool.false_ne_true

/-- A read of the symbol with a valid cache builds nothing (47_facade.md R292, R294). -/
theorem effect_of_cachedRead (he : Effect i s t) (hi : i.opcode ∈ [0x72, 0x73]) (hm : s.matValid = true) :
    t = { s with result := t.result } := by
  cases he with
  | result => rfl
  | buildAndRead _ _ _ _ hn => rw [hm] at hn; cases hn
  | poly _ _ hw | putBits _ hw | matrix _ hw =>
    obtain hi | hi : i.opcode = 0x72 ∨ i.opcode = 0x73 := by simpa using hi
    all_goals simp [hi] at hw
  | nothing hw | clearError hw | reset hw | clearBits hw | dataBits _ hw | configure _ _ hw | openSegment hw
  | appendByte _ hw | blocks _ _ hw | codewords hw | score _ hw | select hw | build _ hw => simp [hw] at hi

end Frame

/-- A command has its effect, or it leaves an error recorded and every other field as it was (60_exceptions.md R312,
R313). -/
theorem exec_effect_or_error {i : Instr} {s t : State} (h : exec i s = .next t) :
    Effect i s t ∨ ∃ code opc, code ≠ 0 ∧ t = { s with err := code, errOpc := opc } := by
  cases exec_outcome h with
  | discarded he => exact .inr ⟨s.err, s.errOpc, he, rfl⟩
  | succeeded he => exact .inl he
  | failed e => exact .inr ⟨e.code, i.opcode, errKind_code_ne_zero e, rfl⟩

/-- Settles O59: a recorded error changes no field the statement names, and an effect that changes one is that of a
command in the field's list. -/
theorem onlyTheNamedCommandsWrite : Obligations.OnlyTheNamedCommandsWrite := by
  intro i s t h
  obtain he | ⟨code, opc, hcode, rfl⟩ := exec_effect_or_error h
  · exact ⟨effect_keeps_configuration he, effect_keeps_segments he, effect_keeps_bits he, effect_keeps_blocks he,
      effect_keeps_codewords he, effect_keeps_poly he, effect_keeps_matrix he, effect_keeps_penalties he,
      effect_keeps_sel he, effect_keeps_result he, fun hi hm => .inl (effect_of_cachedRead he hi hm),
      effect_keeps_matValid he, effect_keeps_rsValid he, effect_sets_matValid he, effect_sets_rsValid he,
      effect_keeps_bus he⟩
  · exact ⟨fun _ => ⟨rfl, rfl, rfl⟩, fun _ => ⟨rfl, rfl⟩, fun _ => rfl, fun _ => ⟨rfl, rfl⟩, fun _ => rfl, fun _ => rfl,
      fun _ => rfl, fun _ => rfl, fun _ => rfl, fun _ => rfl, fun _ _ => .inr hcode, fun _ => rfl, fun _ => rfl,
      fun ht hs => absurd (hs.symm.trans ht) Bool.false_ne_true,
      fun ht hs => absurd (hs.symm.trans ht) Bool.false_ne_true, rfl, rfl⟩

end Sys2Proof.Machine
end

section
/-! PROOFS. The fields of a word, and the words that have a command's operand bits (30_encoding.md R82 to R87). -/

namespace Sys2Proof.Machine

/-! ### The fields of a word are digits of its number -/

theorem extractLsb'_eq_iff {w : Word} {lo len : Nat} {y : BitVec len} :
    w.extractLsb' lo len = y ↔ w.toNat / 2 ^ lo % 2 ^ len = y.toNat := by
  rw [← BitVec.toNat_inj, BitVec.extractLsb'_toNat, Nat.shiftRight_eq_div_pow]

theorem extractLsb'_eq_zero_iff {w : Word} {lo len : Nat} :
    w.extractLsb' lo len = 0 ↔ w.toNat / 2 ^ lo % 2 ^ len = 0 := extractLsb'_eq_iff

theorem pregOf_eq_iff {w : Word} {lo : Nat} {r : PReg} :
    pregOf (w.extractLsb' lo 2) = r ↔ w.toNat / 2 ^ lo % 2 ^ 2 = r.val := by
  have h : pregOf (w.extractLsb' lo 2) = r ↔ (w.extractLsb' lo 2).toNat = r.val := Fin.ext_iff
  rw [h, BitVec.extractLsb'_toNat, Nat.shiftRight_eq_div_pow]

theorem pregOf_eq_zero_iff {w : Word} {lo : Nat} : pregOf (w.extractLsb' lo 2) = 0 ↔ w.extractLsb' lo 2 = 0 := by
  rw [pregOf_eq_iff, extractLsb'_eq_zero_iff]; rfl

/-! ### A word has the operand bits of a format when the bits the format reserves are 0 and its fields hold the operands
(30_encoding.md R82 to R87) -/

/-- Bits 23:0 of the word are `bits`. -/
def HasOperands (w bits : Word) : Prop := bits.toNat = w.toNat % 2 ^ 24

section Formats

variable {w : Word}

theorem hasOperandsZ_iff : HasOperands w 0#32 ↔ w.extractLsb' 0 24 = 0 := by
  rw [HasOperands, extractLsb'_eq_zero_iff, pow_zero, Nat.div_one, eq_comm]; rfl

theorem hasOperandsB_iff {b : Byte} : HasOperands w (bitsB b) ↔ w.extractLsb' 8 16 = 0 ∧ fieldB w = b := by
  have := b.isLt
  rw [HasOperands, Laws.bitsB_toNat, extractLsb'_eq_zero_iff, fieldB, extractLsb'_eq_iff]
  omega

theorem hasOperandsAB_iff {a b : Byte} :
    HasOperands w (bitsAB a b) ↔ w.extractLsb' 16 8 = 0 ∧ fieldA w = a ∧ fieldB w = b := by
  have := a.isLt
  have := b.isLt
  rw [HasOperands, Laws.bitsAB_toNat, extractLsb'_eq_zero_iff, fieldA, fieldB, extractLsb'_eq_iff, extractLsb'_eq_iff]
  omega

theorem hasOperandsI_iff {imm : Half} :
    HasOperands w (bitsImm imm) ↔ w.extractLsb' 16 8 = 0 ∧ fieldImm w = imm := by
  have := imm.isLt
  rw [HasOperands, Laws.bitsImm_toNat, extractLsb'_eq_zero_iff, fieldImm, extractLsb'_eq_iff]
  omega

theorem bitsS_toNat (size : BitVec 5) (val : Half) :
    (size.setWidth 32 <<< 16 ||| bitsImm val).toNat = size.toNat * 2 ^ 16 + val.toNat := by
  have hs := size.isLt
  have hx : (size.setWidth 32 : Word).toNat = size.toNat := by rw [BitVec.toNat_setWidth]; omega
  rw [Laws.or_toNat_of_lt (Laws.shiftLeft_toNat hx (by omega)) (by rw [Laws.bitsImm_toNat]; exact val.isLt),
    Laws.bitsImm_toNat]

theorem hasOperandsS_iff {size : BitVec 5} {val : Half} :
    HasOperands w (size.setWidth 32 <<< 16 ||| bitsImm val) ↔
      w.extractLsb' 21 3 = 0 ∧ fieldSize w = size ∧ fieldImm w = val := by
  have := size.isLt
  have := val.isLt
  rw [HasOperands, bitsS_toNat, extractLsb'_eq_zero_iff, fieldSize, fieldImm, extractLsb'_eq_iff, extractLsb'_eq_iff]
  omega

/-- Bits 23:0 of a format-P word, the fields its row does not use at 0 (30_encoding.md R86). -/
def bitsP (pd pa pb : PReg) (imm : Half) : Word := bitsPD pd ||| bitsPA pa ||| bitsPB pb ||| bitsImm imm

theorem bitsP_toNat (pd pa pb : PReg) (imm : Half) : (bitsP pd pa pb imm).toNat = polyFields pd pa pb imm.toNat := by
  have h₀ := Laws.or_toNat_of_lt (Laws.bitsPB_toNat pb) (by rw [Laws.bitsImm_toNat]; exact imm.isLt)
  rw [Laws.bitsImm_toNat] at h₀
  have h₁ := Laws.or_toNat_of_lt (Laws.bitsPA_toNat pa) (h₀.trans_lt (by omega))
  have h₂ := Laws.or_toNat_of_lt (Laws.bitsPD_toNat pd) (h₁.trans_lt (by omega))
  rw [bitsP, BitVec.or_assoc, BitVec.or_assoc, h₂, h₁, h₀]
  simp only [polyFields, Nat.add_assoc]

theorem hasOperandsP_iff {pd pa pb : PReg} {imm : Half} :
    HasOperands w (bitsP pd pa pb imm) ↔
      w.extractLsb' 22 2 = 0 ∧ fieldPD w = pd ∧ fieldPA w = pa ∧ fieldPB w = pb ∧ fieldImm w = imm := by
  have := imm.isLt
  rw [HasOperands, bitsP_toNat, polyFields, extractLsb'_eq_zero_iff, fieldPD, fieldPA, fieldPB, fieldImm, pregOf_eq_iff,
    pregOf_eq_iff, pregOf_eq_iff, extractLsb'_eq_iff]
  omega

end Formats

end Sys2Proof.Machine
end

section
/-! PROOFS. The legal words are the words of the well-formed commands: the two round trips (30_encoding.md R81 to R89,
R101). -/

namespace Sys2Proof.Machine

/-! ### The rows of format P, each with the fields it uses (30_encoding.md R89) -/

section FormatP

variable (pd pa pb : PReg) (imm : Half)

theorem operandBits_pClr : (Instr.pClr pd).operandBits = bitsP pd 0 0 0 := by
  simp [Instr.operandBits, bitsP, bitsPA, bitsPB, bitsImm]
theorem operandBits_pPush : (Instr.pPush pd imm).operandBits = bitsP pd 0 0 imm := by
  simp [Instr.operandBits, bitsP, bitsPA, bitsPB]
theorem operandBits_pShift : (Instr.pShift pd pa imm).operandBits = bitsP pd pa 0 imm := by
  simp [Instr.operandBits, bitsP, bitsPB]
theorem operandBits_pMul : (Instr.pMul pd pa pb).operandBits = bitsP pd pa pb 0 := by
  simp [Instr.operandBits, bitsP, bitsImm]
theorem operandBits_pMod : (Instr.pMod pd pa pb).operandBits = bitsP pd pa pb 0 := operandBits_pMul pd pa pb
theorem operandBits_pGen : (Instr.pGen pd imm).operandBits = bitsP pd 0 0 imm := operandBits_pPush pd imm
theorem operandBits_pLen : (Instr.pLen pa).operandBits = bitsP 0 pa 0 0 := by
  simp [Instr.operandBits, bitsP, bitsPD, bitsPB, bitsImm]
theorem operandBits_pGet : (Instr.pGet pa imm).operandBits = bitsP 0 pa 0 imm := by
  simp [Instr.operandBits, bitsP, bitsPD, bitsPB]

end FormatP

section Rows

variable {w : Word} {r : Except IllegalReason Instr} {i : Instr}

/-! ### What a row of the opcode map checks -/

/-- A field check passes when the bits it reserves are 0 (30_encoding.md R90 (b)). -/
theorem ifZero_eq_ok_iff {lo len : Nat} : ifZero w lo len r = .ok i ↔ w.extractLsb' lo len = 0 ∧ r = .ok i := by
  rw [ifZero]
  split <;> simp_all

theorem unusedPD_eq_ok_iff : unusedPD w r = .ok i ↔ fieldPD w = 0 ∧ r = .ok i := by
  rw [unusedPD, ifZero_eq_ok_iff, fieldPD, pregOf_eq_zero_iff]

theorem unusedPA_eq_ok_iff : unusedPA w r = .ok i ↔ fieldPA w = 0 ∧ r = .ok i := by
  rw [unusedPA, ifZero_eq_ok_iff, fieldPA, pregOf_eq_zero_iff]

theorem unusedPB_eq_ok_iff : unusedPB w r = .ok i ↔ fieldPB w = 0 ∧ r = .ok i := by
  rw [unusedPB, ifZero_eq_ok_iff, fieldPB, pregOf_eq_zero_iff]

theorem unusedImm_eq_ok_iff : unusedImm w r = .ok i ↔ fieldImm w = 0 ∧ r = .ok i := ifZero_eq_ok_iff

/-! ### The decoder undoes the encoder -/

/-- The row of `i` reads `i` from a word whose operand bits are those of `i`, and from no other. -/
theorem decodeFields_eq_ok_iff_of_opcode (h : (opcodeField w).toNat = i.opcode.toNat) :
    decodeFields w = .ok i ↔ HasOperands w i.operandBits := by
  rw [decodeFields, h]
  cases i with
  | nop | errClr | softReset | ident | bbClr | bbLen | segBegin | encData | encRs | encIlv | cwLen | planCnt | mxClr
  | mxFinder | mxAlign | mxTiming | msSelect | build | rdCount | rdMask | rdCfg =>
    simp [Instr.opcode, formatZ, ifZero_eq_ok_iff, Instr.operandBits, hasOperandsZ_iff]
  | gfLog | bchFmt | bchVer | bbPutBit | segByte | mxVersion | mxData | msScore =>
    simp [Instr.opcode, formatB, ifZero_eq_ok_iff, Instr.operandBits, hasOperandsB_iff]
  | gfMul | gfAdd | symCfg | mxFormat | mxBuild | mxRd | penGet | rdDark =>
    simp [Instr.opcode, formatAB, ifZero_eq_ok_iff, Instr.operandBits, hasOperandsAB_iff]
  | gfExp | bbGet | bbGetByte | cwGet | planGet =>
    simp [Instr.opcode, formatI, ifZero_eq_ok_iff, Instr.operandBits, hasOperandsI_iff]
  | bbPut => simp [Instr.opcode, formatS, ifZero_eq_ok_iff, Instr.operandBits, hasOperandsS_iff]
  | pClr | pPush | pShift | pMul | pMod | pGen | pLen | pGet =>
    simp [Instr.opcode, formatP, ifZero_eq_ok_iff, unusedPD_eq_ok_iff, unusedPA_eq_ok_iff, unusedPB_eq_ok_iff,
      unusedImm_eq_ok_iff, operandBits_pClr, operandBits_pPush, operandBits_pShift, operandBits_pMul, operandBits_pMod,
      operandBits_pGen, operandBits_pLen, operandBits_pGet, hasOperandsP_iff, and_assoc, and_comm, and_left_comm]

open Laws.OpcodeOfWord in
/-- The word of a command is its opcode byte above its operand bits: the constructors' lemmas in one. -/
theorem opcodeOfWord (i : Instr) : Statement i :=
  Instr.casesOn i nop errClr softReset ident gfExp gfLog gfMul gfAdd bchFmt bchVer pClr pPush pShift pMul pMod pGen pLen
    pGet bbClr bbPut bbPutBit bbGet bbGetByte bbLen symCfg segBegin segByte encData encRs encIlv cwLen cwGet planCnt
    planGet mxClr mxFinder mxAlign mxTiming mxFormat mxVersion mxData mxBuild mxRd msScore msSelect penGet build rdCount
    rdDark rdMask rdCfg

theorem encode_eq_iff : encode i = w ↔ i.opcode.toNat = (opcodeField w).toNat ∧ HasOperands w i.operandBits := by
  obtain ⟨hlt, hword⟩ := opcodeOfWord i
  rw [← BitVec.toNat_inj, hword, opcodeField_toNat, HasOperands]
  omega

/-- The field checks of the decoder pass exactly the words of the commands (30_encoding.md R81 to R89). -/
theorem decodeFields_eq_ok_iff : decodeFields w = .ok i ↔ encode i = w := by
  rw [encode_eq_iff]
  constructor
  · intro h
    have hop := opcode_of_decodeFields h
    exact ⟨hop, (decodeFields_eq_ok_iff_of_opcode hop.symm).mp h⟩
  · rintro ⟨hop, hbits⟩
    exact (decodeFields_eq_ok_iff_of_opcode hop.symm).mpr hbits

theorem decode_of_fields (h : decodeFields w = .ok i) : decode w = checkRanges i := by rw [decode, h]

theorem decode_of_fields_error {e : IllegalReason} (h : decodeFields w = .error e) : decode w = .error e := by
  rw [decode, h]

theorem checkRanges_eq_ok_iff {j : Instr} : checkRanges j = .ok i ↔ j = i ∧ j.wellFormed = true := by
  rw [checkRanges]
  split <;> simp_all

/-- The legal words are the words of the well-formed commands (30_encoding.md R101). -/
theorem decode_eq_ok_iff : decode w = .ok i ↔ encode i = w ∧ i.wellFormed = true := by
  rw [← decodeFields_eq_ok_iff]
  cases h : decodeFields w with
  | error e => simp [decode_of_fields_error h]
  | ok j =>
    rw [decode_of_fields h, checkRanges_eq_ok_iff, Except.ok.injEq]
    exact and_congr_right fun hj => hj ▸ Iff.rfl

end Rows

/-- Settles O1, by what the legal words are. -/
theorem decodeEncodeRoundTrip : Obligations.DecodeEncodeRoundTrip := fun _ hwf => decode_eq_ok_iff.mpr ⟨rfl, hwf⟩

/-- Settles O2, by what the legal words are. -/
theorem encodeDecodeRoundTrip : Obligations.EncodeDecodeRoundTrip := fun _ _ h => (decode_eq_ok_iff.mp h).symm

/-- Settles O3: each example is the word of its command. -/
theorem decodeExampleWords : Obligations.DecodeExampleWords := by
  simp only [Obligations.DecodeExampleWords, decode_eq_ok_iff]
  decide

end Sys2Proof.Machine
end

section
/-! PROOFS. The illegal words, and that every word has a next state (30_encoding.md R90, R100). -/

namespace Sys2Proof.Machine

section Illegal

variable {w : Word}

/-! ### The bits a row reserves, as one mask -/

/-- The bits `[lo+len-1 : lo]` of a word. -/
def maskOf (lo len : Nat) : Word := (BitVec.allOnes len).setWidth 32 <<< lo

theorem extractLsb'_eq_zero_iff_and {lo len : Nat} : w.extractLsb' lo len = 0 ↔ w &&& maskOf lo len = 0 := by
  have hfield : w.extractLsb' lo len = 0 ↔ ∀ k < len, w.getLsbD (lo + k) = false := by
    simp [BitVec.zero_iff_eq_false]
  have hmask : w &&& maskOf lo len = 0 ↔ ∀ j, lo ≤ j → j - lo < len → w.getLsbD j = false := by
    simp [BitVec.zero_iff_eq_false, maskOf]
    grind
  rw [hfield, hmask]
  constructor
  · intro h j hlo hlen
    exact Nat.add_sub_of_le hlo ▸ h _ hlen
  · intro h k hk
    exact h _ (Nat.le_add_right lo k) (by omega)

/-- `r` when the bits of the mask are 0 in the word (30_encoding.md R90 (b)). -/
def ifZeroUnder (w m : Word) (r : Except IllegalReason Instr) : Except IllegalReason Instr :=
  if w &&& m = 0 then r else .error .reservedFieldNotZero

theorem ifZero_eq_ifZeroUnder (lo len : Nat) (r : Except IllegalReason Instr) :
    ifZero w lo len r = ifZeroUnder w (maskOf lo len) r := if_congr extractLsb'_eq_zero_iff_and rfl rfl

/-- Two field checks are one check of both masks. -/
theorem ifZeroUnder_ifZeroUnder (m m' : Word) (r : Except IllegalReason Instr) :
    ifZeroUnder w m (ifZeroUnder w m' r) = ifZeroUnder w (m ||| m') r := by
  have h : w &&& (m ||| m') = 0 ↔ w &&& m = 0 ∧ w &&& m' = 0 := by
    rw [BitVec.and_or_distrib_left]; exact BitVec.or_eq_zero_iff
  simp only [ifZeroUnder, h, ite_and]

/-! ### The checks of the decoder in their order -/

/-- Every row of the opcode map reserves the bits R82 to R89 reserve, and every other opcode is unassigned. The case
`h_52` is the last row of `decodeFields`, where the opcode is none of the 51 above; `imp_false` makes that readable for
`omega`. -/
theorem decodeFields_eq (w : Word) : ∃ i, decodeFields w =
    if unassigned (w.toNat / 2 ^ 24) then .error .unassignedOpcode
    else ifZeroUnder w (mustBeZero (w.toNat / 2 ^ 24)) (.ok i) := by
  rw [← opcodeField_toNat]
  unfold decodeFields
  split
  case h_52 =>
    have := (opcodeField w).isLt
    refine ⟨.nop, (if_pos ?_).symm⟩
    simp only [imp_false] at *
    simp only [unassigned, List.any_cons, List.any_nil, Bool.or_false, Bool.or_eq_true, decide_eq_true_eq]
    omega
  all_goals
    rename_i hop
    simp only [hop, formatZ, formatB, formatAB, formatI, formatS, formatP, unusedPD, unusedPA, unusedPB, unusedImm,
      ifZero_eq_ifZeroUnder, ifZeroUnder_ifZeroUnder]
    exact ⟨_, rfl⟩

/-- The ranges of R90 (c) read off the word are those of the command. -/
theorem outOfRange_encode (i : Instr) : outOfRange (encode i).toNat = !i.wellFormed := by
  obtain ⟨hlt, hword⟩ := opcodeOfWord i
  have hop : (encode i).toNat / 2 ^ 24 = i.opcode.toNat := by omega
  rw [outOfRange, hop, hword]
  cases i with
  | bbPutBit b | bchFmt b | bchVer b | mxVersion b =>
    have := b.isLt
    simp only [Instr.opcode, BitVec.ofNat_eq_ofNat, BitVec.reduceToNat, Instr.wellFormed, ← decide_not,
      decide_eq_decide, Instr.operandBits, Laws.bitsB_toNat]
    omega
  | mxFormat a b | mxBuild a b | penGet a b =>
    have := b.isLt
    simp only [Instr.opcode, BitVec.ofNat_eq_ofNat, BitVec.reduceToNat, Instr.wellFormed, ← decide_not,
      decide_eq_decide, Instr.operandBits, Laws.bitsAB_toNat]
    omega
  | bbPut size val =>
    have := size.isLt
    have := val.isLt
    simp only [Instr.opcode, BitVec.ofNat_eq_ofNat, BitVec.reduceToNat, Instr.wellFormed, ← decide_not,
      decide_eq_decide, Instr.operandBits, bitsS_toNat]
    omega
  | pPush pd imm =>
    have := imm.isLt
    simp only [Instr.opcode, BitVec.ofNat_eq_ofNat, BitVec.reduceToNat, Instr.wellFormed, ← decide_not,
      decide_eq_decide, operandBits_pPush, bitsP_toNat, polyFields]
    omega
  | _ => rfl

/-- The three checks of R90 in their order. -/
theorem decode_eq (w : Word) : ∃ i, decode w =
    if unassigned (w.toNat / 2 ^ 24) then .error .unassignedOpcode
    else if w &&& mustBeZero (w.toNat / 2 ^ 24) ≠ 0 then .error .reservedFieldNotZero
    else if outOfRange w.toNat then .error .operandOutOfRange
    else .ok i := by
  obtain ⟨i, hi⟩ := decodeFields_eq w
  refine ⟨i, ?_⟩
  by_cases hu : unassigned (w.toNat / 2 ^ 24) = true
  · rw [if_pos hu] at hi ⊢
    exact decode_of_fields_error hi
  rw [if_neg hu, ifZeroUnder] at hi
  rw [if_neg hu]
  by_cases hz : w &&& mustBeZero (w.toNat / 2 ^ 24) = 0
  · rw [if_pos hz] at hi
    have hrange := decodeFields_eq_ok_iff.mp hi ▸ outOfRange_encode i
    rw [if_neg (not_not.mpr hz), decode_of_fields hi, checkRanges, hrange]
    cases i.wellFormed <;> rfl
  · rw [if_neg hz] at hi
    rw [if_pos hz]
    exact decode_of_fields_error hi

/-! ### What an illegal word does -/

theorem runWord_of_illegal_ready {reason : IllegalReason} {s : State} (h : decode w = .error reason)
    (he : s.err = 0) : runWord w s = .next { s with err := 5, errOpc := opcodeField w } := by
  rw [runWord_of_illegal h]
  exact runCommand_of_error (e := .illegalCommand) he rfl

theorem runWord_of_illegal_error {reason : IllegalReason} {s : State} (h : decode w = .error reason)
    (he : s.err ≠ 0) : runWord w s = .next s := by
  rw [runWord_of_illegal h]
  obtain ⟨t, ht⟩ := runCommand_next (opcodeField w) (fun _ => .error .illegalCommand) s
  obtain ⟨rfl, -⟩ | hok | ⟨-, -, hready, -⟩ := runCommand_cases ht
  · exact ht
  · cases hok
  · exact absurd hready he

end Illegal

/-- Settles O4, by the order of the decoder's checks. -/
theorem illegalWordReasons : Obligations.IllegalWordReasons := by
  intro w
  obtain ⟨i, hi⟩ := decode_eq w
  refine ⟨?_, ?_, ?_, fun reason s h he => runWord_of_illegal_ready h he⟩
  all_goals
    rw [hi]
    split_ifs <;> simp_all

/-- Settles O14: an illegal word runs a rule too. -/
theorem everyWordHasNextState : Obligations.EveryWordHasNextState := by
  intro w s
  cases h : decode w with
  | ok i => exact runWord_of_legal h s ▸ exec_next i s
  | error r => exact runWord_of_illegal h s ▸ runCommand_next _ _ s

/-- Settles O6: the step takes the event and runs the illegal word. -/
theorem stepRecordsIllegalWord : Obligations.StepRecordsIllegalWord := by
  intro s w reason rest hp hw
  rw [step_of_command hp]
  exact ⟨fun he => runWord_of_illegal_ready hw he, fun he => runWord_of_illegal_error hw he⟩

end Sys2Proof.Machine
end

section
/-! PROOFS. The commands that write a result from their operands alone, and the words whose operand is outside its encoding
range (30_encoding.md R81, R90 (c)). -/

namespace Sys2Proof.Machine

/-- The word of a command, from the number its operand bits are (30_encoding.md R81). -/
theorem wordIs_of_operandBits {i : Instr} {n : Nat} (h : i.operandBits.toNat = n) : i.wordIs i.opcode.toNat n :=
  h ▸ (opcodeOfWord i).2

section Rule

variable {i : Instr} {s : State}

/-- A command whose rule succeeds leaves what the rule leaves (60_exceptions.md R312). -/
theorem exec_of_rule_ok {body : State → Except ErrKind State} {t : State}
    (hi : ∀ s, exec i s = runCommand i.opcode body s) (he : s.err = 0) (hb : body s = .ok t) : exec i s = .next t :=
  (hi s).trans (runCommand_of_ok he hb)

/-- A command whose rule fails records the error (60_exceptions.md R312, R316). -/
theorem exec_of_rule_error {body : State → Except ErrKind State} {e : ErrKind}
    (hi : ∀ s, exec i s = runCommand i.opcode body s) (he : s.err = 0) (hb : body s = .error e) :
    exec i s = .next (s.failed e.code i) :=
  (hi s).trans (runCommand_of_error he hb)

/-- A command whose rule is `RESULT <- v` writes it and changes nothing else. -/
theorem exec_of_setResult {v : Word} (hi : ∀ s, exec i s = runCommand i.opcode (fun s => .ok (s.setResult v)) s)
    (he : s.err = 0) : exec i s = .next { s with result := v } :=
  exec_of_rule_ok hi he rfl

end Rule

/-- The word of a command with an operand outside its encoding range is illegal (30_encoding.md R90 (c)). -/
theorem decode_encode_of_not_wellFormed {i : Instr} (h : i.wellFormed = false) :
    decode (encode i) = .error .operandOutOfRange := by
  rw [decode_of_fields (decodeFields_eq_ok_iff.mpr rfl), checkRanges, h]
  rfl

/-- Settles O21: its rule writes the exclusive or. -/
theorem gfAdd : Obligations.GfAdd := fun a b _ =>
  ⟨wordIs_of_operandBits (Laws.bitsAB_toNat a b), exec_of_setResult fun _ => rfl⟩

end Sys2Proof.Machine
end

section
/-! PROOFS. The field unit: the tables hold the powers of `α`, and multiplication by a power of `α` is repeated
multiplication by `α` (41_galois_field.md R110 to R115). -/

namespace Sys2Proof.Machine

/-! ### Powers of `α` -/

theorem timesAlpha_xor (x y : Byte) : timesAlpha (x ^^^ y) = timesAlpha x ^^^ timesAlpha y := by
  simp only [timesAlpha, BitVec.msb_xor, BitVec.shiftLeft_xor_distrib]
  cases x.msb <;> cases y.msb <;> grind

theorem alphaPow_eq_iterate (n : Nat) : alphaPow n = timesAlpha^[n] 1 := by
  induction n with
  | zero => rfl
  | succ n ih => rw [alphaPow, ih, Function.iterate_succ_apply']

theorem alphaPow_add (m n : Nat) : alphaPow (m + n) = timesAlpha^[m] (alphaPow n) := by
  rw [alphaPow_eq_iterate, Function.iterate_add_apply, ← alphaPow_eq_iterate]

/-! ### The tables (R110) -/

/-- Each entry of `EXP` is `α` times the one before. -/
theorem expAt_succ : ∀ n < 255, expAt (n + 1) = timesAlpha (expAt n) := by decide +kernel

theorem expAt_eq_alphaPow {n : Nat} (h : n ≤ 255) : expAt n = alphaPow n := by
  induction n with
  | zero => rfl
  | succ n ih => rw [expAt_succ n h, ih (Nat.le_of_succ_le h), alphaPow]

/-- `LOG` is the inverse of `EXP`. -/
theorem expAt_logAt : ∀ b : Byte, b ≠ 0 → logAt b < 255 ∧ expAt (logAt b) = b := by decide

theorem alphaPow_logAt {b : Byte} (h : b ≠ 0) : alphaPow (logAt b) = b := by
  obtain ⟨hlt, hexp⟩ := expAt_logAt b h
  rw [← expAt_eq_alphaPow hlt.le, hexp]

/-- The powers of `α` repeat after 255 (R111). -/
theorem alphaPow_periodic : Function.Periodic alphaPow 255 := by
  intro n
  rw [alphaPow_add, ← expAt_eq_alphaPow le_rfl, alphaPow_eq_iterate]
  rfl

theorem gexp_eq_alphaPow (n : Int) : gexp n = alphaPow (n % 255).toNat :=
  expAt_eq_alphaPow (by omega)

theorem gexp_natCast (n : Nat) : gexp n = alphaPow n := by
  rw [gexp_eq_alphaPow, ← alphaPow_periodic.map_mod_nat n]
  rfl

/-! ### Products (R114) -/

theorem polynomialProduct_zero_left (b : Byte) : polynomialProduct 0 b = 0 :=
  List.foldl_fixed' (fun i => by rw [Function.iterate_fixed rfl i]; exact ite_self _) _

theorem polynomialProduct_zero_right (a : Byte) : polynomialProduct a 0 = 0 :=
  List.foldl_fixed' (fun i => by simp) _

theorem polynomialProduct_one_left : ∀ b : Byte, polynomialProduct 1 b = b := by decide

/-- Multiplication by `α` commutes with the product: it is additive. -/
theorem polynomialProduct_timesAlpha_left (a b : Byte) :
    polynomialProduct (timesAlpha a) b = timesAlpha (polynomialProduct a b) := by
  refine List.foldl_hom (init := 0) timesAlpha fun x i => ?_
  rw [(Function.Commute.refl timesAlpha).iterate_left i a, apply_ite timesAlpha, timesAlpha_xor]

theorem polynomialProduct_alphaPow_left (n : Nat) (b : Byte) : polynomialProduct (alphaPow n) b = timesAlpha^[n] b := by
  induction n with
  | zero => exact polynomialProduct_one_left b
  | succ n ih => rw [alphaPow, polynomialProduct_timesAlpha_left, ih, Function.iterate_succ_apply']

/-- The product by logarithms is the product of polynomials: the logarithms of the factors add up. -/
theorem gmul_eq_polynomialProduct (a b : Byte) : gmul a b = polynomialProduct a b := by
  by_cases ha : a = 0
  · rw [gmul, if_pos (.inl ha), ha, polynomialProduct_zero_left]
  by_cases hb : b = 0
  · rw [gmul, if_pos (.inr hb), hb, polynomialProduct_zero_right]
  calc gmul a b = alphaPow (logAt a + logAt b) := by
        rw [gmul, if_neg (not_or.mpr ⟨ha, hb⟩), ← Nat.cast_add, gexp_natCast]
    _ = polynomialProduct (alphaPow (logAt a)) (alphaPow (logAt b)) := by
        rw [alphaPow_add, polynomialProduct_alphaPow_left]
    _ = polynomialProduct a b := by rw [alphaPow_logAt ha, alphaPow_logAt hb]

/-! ### The commands -/

theorem glog_of_ne_zero {b : Byte} (h : b ≠ 0) : glog b = .ok (logAt b) := require_of_true h _ _

theorem glog_zero : glog 0 = .error .invalidFieldOperand := rfl

/-- Settles O18: `EXP` holds the powers of `α`. -/
theorem gfExp : Obligations.GfExp := fun imm _ =>
  ⟨wordIs_of_operandBits (Laws.bitsImm_toNat imm), fun he =>
    gexp_eq_alphaPow imm.toInt ▸ exec_of_setResult (fun _ => rfl) he⟩

/-- Settles O19: `LOG` holds the logarithms. -/
theorem gfLog : Obligations.GfLog := by
  refine fun b s => ⟨wordIs_of_operandBits (Laws.bitsB_toNat b), fun he hb => ?_, fun he hb => ?_⟩
  · refine ⟨logAt b, (expAt_logAt b hb).1, alphaPow_logAt hb, exec_of_rule_ok (fun _ => rfl) he ?_⟩
    rw [glog_of_ne_zero hb]
    rfl
  · refine exec_of_rule_error (e := .invalidFieldOperand) (fun _ => rfl) he ?_
    rw [hb, glog_zero]
    rfl

/-- Settles O20: the product by logarithms is the product of polynomials. -/
theorem gfMul : Obligations.GfMul := fun a b _ =>
  ⟨wordIs_of_operandBits (Laws.bitsAB_toNat a b), fun he =>
    gmul_eq_polynomialProduct a b ▸ exec_of_setResult (fun _ => rfl) he⟩

end Sys2Proof.Machine
end

section
/-! PROOFS. The BCH encoders: the remainder loop takes multiples of the generator polynomial off, so operand and remainder
together are one (41_galois_field.md R117 to R119). -/

namespace Sys2Proof.Machine

/-! ### Products without carries -/

theorem carrylessProduct_succ (w a b : Nat) : carrylessProduct (w + 1) a b =
    if b.testBit w then carrylessProduct w a b ^^^ (a <<< w) else carrylessProduct w a b := by
  simp [carrylessProduct, List.range_succ]

theorem carrylessProduct_zero_right (w a : Nat) : carrylessProduct w a 0 = 0 :=
  List.foldl_fixed' (fun i => by simp) _

/-- One bit more or less in the second factor adds the first factor at its place. -/
theorem carrylessProduct_xor_two_pow (w a q k : Nat) : carrylessProduct w a (q ^^^ 2 ^ k) =
    if k < w then carrylessProduct w a q ^^^ (a <<< k) else carrylessProduct w a q := by
  induction w with
  | zero => rfl
  | succ w ih =>
    simp only [carrylessProduct_succ, ih, Nat.testBit_xor, Nat.testBit_two_pow]
    obtain h | rfl | h := lt_trichotomy k w
    · cases q.testBit w <;> simp [h, h.ne, h.trans, Nat.xor_right_comm]
    · cases q.testBit k <;> simp
    · cases q.testBit w <;> simp [h.ne', h.not_gt, show ¬ k < w + 1 by omega]

/-! ### The remainder (R117) -/

theorem bitlen_eq_size (d : Nat) : bitlen d = d.size := by
  refine eq_of_forall_ge_iff fun n => ?_
  rw [Nat.size_le, bitlen]
  split
  · simp_all
  · rw [Nat.succ_le_iff, Nat.log2_lt ‹_›]

theorem testBit_of_size_eq {x n : Nat} (h : x.size = n + 1) : x.testBit n = true :=
  Nat.testBit_of_two_pow_le_and_two_pow_add_one_gt (Nat.lt_size.mp (by omega)) (Nat.size_le.mp h.le)

/-- Two numbers of one length differ from their leading digit down. -/
theorem size_xor_le {x y n : Nat} (hx : x.size = n + 1) (hy : y.size = n + 1) : (x ^^^ y).size ≤ n := by
  have hlt : x ^^^ y < 2 ^ (n + 1) := Nat.xor_lt_two_pow (Nat.size_le.mp hx.le) (Nat.size_le.mp hy.le)
  refine Nat.size_le.mpr (Nat.lt_pow_two_of_testBit _ fun i hi => ?_)
  obtain rfl | hgt := hi.eq_or_lt
  · rw [Nat.testBit_xor, testBit_of_size_eq hx, testBit_of_size_eq hy, Bool.xor_self]
  · exact Nat.testBit_lt_two_pow (hlt.trans_le (Nat.pow_le_pow_right (by decide) hgt))

/-- The loop takes off multiples of the divisor, until what is left is shorter than the divisor. -/
theorem bchRemLoop_spec {m w g fuel d : Nat} (hg : g.size = m + 1) (hfuel : d.size ≤ fuel) (hd : d.size ≤ m + w) :
    (∃ q, bchRemLoop fuel d g = d ^^^ carrylessProduct w g q) ∧ bchRemLoop fuel d g < 2 ^ m := by
  induction fuel generalizing d with
  | zero =>
    have hd0 : d = 0 := Nat.size_eq_zero.mp (Nat.le_zero.mp hfuel)
    exact ⟨⟨0, by simp [bchRemLoop, carrylessProduct_zero_right]⟩, by simp [bchRemLoop, hd0]⟩
  | succ fuel ih =>
    rw [bchRemLoop, bitlen_eq_size, bitlen_eq_size]
    by_cases hlen : d.size ≥ g.size
    · rw [if_pos hlen]
      generalize hk : d.size - g.size = k
      have hshift : (g <<< k).size = g.size + k := Nat.size_shiftLeft (by rintro rfl; simp at hg) k
      have hshorter := size_xor_le (x := d) (y := g <<< k) (n := m + k) (by omega) (by omega)
      obtain ⟨⟨q, hq⟩, hlt⟩ := ih (d := d ^^^ (g <<< k)) (by omega) (by omega)
      refine ⟨⟨q ^^^ 2 ^ k, ?_⟩, hlt⟩
      rw [hq, carrylessProduct_xor_two_pow, if_pos (by omega), Nat.xor_assoc, Nat.xor_comm (g <<< k)]
    · rw [if_neg hlen]
      exact ⟨⟨0, by simp [carrylessProduct_zero_right]⟩, Nat.size_le.mp (by omega)⟩

theorem bchRem_spec {m w g d : Nat} (hg : g.size = m + 1) (hd : d.size ≤ m + w) :
    (∃ q, bchRem d g = d ^^^ carrylessProduct w g q) ∧ bchRem d g < 2 ^ m :=
  bchRemLoop_spec hg (bitlen_eq_size d).ge hd

theorem shiftLeft_or_eq_xor {d r m : Nat} (hr : r < 2 ^ m) : d <<< m ||| r = d <<< m ^^^ r := by
  refine Nat.eq_of_testBit_eq fun i => ?_
  by_cases hi : m ≤ i
  · simp [Nat.testBit_lt_two_pow (hr.trans_le (Nat.pow_le_pow_right (by decide) hi))]
  · simp [hi]

/-- A word of `w` digits followed by its remainder is a multiple of the generator polynomial. -/
theorem exists_carrylessProduct_eq_codeword {m w g d : Nat} (hg : g.size = m + 1) (hd : d < 2 ^ w) :
    ∃ q, carrylessProduct w g q = d <<< m ||| bchRem (d <<< m) g ∧ carrylessProduct w g q / 2 ^ m = d := by
  have hsize : (d <<< m).size ≤ m + w := Nat.size_le.mpr (Nat.add_comm w m ▸ Nat.shiftLeft_lt hd)
  obtain ⟨⟨q, hq⟩, hlt⟩ := bchRem_spec hg hsize
  have hword : carrylessProduct w g q = d <<< m ||| bchRem (d <<< m) g := by
    rw [shiftLeft_or_eq_xor hlt, hq, Nat.xor_xor_cancel_left]
  refine ⟨q, hword, ?_⟩
  rw [hword, Nat.or_div_two_pow, Nat.div_eq_of_lt hlt, Nat.or_zero, Nat.shiftLeft_eq,
    Nat.mul_div_cancel _ (Nat.two_pow_pos m)]

/-! ### The commands -/

/-- Settles O22: each code word is its operand followed by the remainder of the generator polynomial. -/
theorem bchCodewords : Obligations.BchCodewords := by
  intro b s
  refine ⟨wordIs_of_operandBits (Laws.bitsB_toNat b), wordIs_of_operandBits (Laws.bitsB_toNat b), fun he hb => ?_,
    fun he hb => ?_, fun hb => ?_, fun hb => ?_⟩
  · obtain ⟨q, hword, hlead⟩ :=
      exists_carrylessProduct_eq_codeword (m := 10) (w := 5) (g := bchG15) (by decide) (Nat.lt_succ_of_le hb)
    refine ⟨q, hlead, exec_of_setResult (fun _ => ?_) he⟩
    exact hword ▸ rfl
  · obtain ⟨q, hword, hlead⟩ :=
      exists_carrylessProduct_eq_codeword (m := 12) (w := 6) (g := bchG18) (by decide) (Nat.lt_succ_of_le hb)
    refine ⟨q, hlead, exec_of_setResult (fun _ => ?_) he⟩
    exact hword ▸ rfl
  · exact decode_encode_of_not_wellFormed (decide_eq_false hb.not_ge)
  · exact decode_encode_of_not_wellFormed (decide_eq_false hb.not_ge)

end Sys2Proof.Machine
end

section
/-! PROOFS. The polynomial registers: the commands that clear, extend, shift and read one (42_polynomial.md R132 to R134,
R138, R139). -/

namespace Sys2Proof.Machine

/-- The word of a format-P command, from the fields its operand bits are (30_encoding.md R86). -/
theorem wordIs_of_bitsP {i : Instr} {pd pa pb : PReg} {imm : Half} {n : Nat} (h : i.operandBits = bitsP pd pa pb imm)
    (hn : imm.toNat = n) : i.wordIs i.opcode.toNat (polyFields pd pa pb n) :=
  wordIs_of_operandBits (hn ▸ h ▸ bitsP_toNat pd pa pb imm)

/-- No zeros appended: the leading zeros are stripped (42_polynomial.md R130). -/
theorem mkPoly_zero (l : List Byte) : mkPoly l 0 = l.dropWhile (· == 0) := List.append_nil _

theorem mkPoly_length (l : List Byte) (n : Nat) : (mkPoly l n).length = (l.dropWhile (· == 0)).length + n := by
  rw [mkPoly, List.length_append, List.length_replicate]

/-- A checked write of a polynomial register that passes its check. -/
theorem exec_of_checked_setPoly {i : Instr} {s : State} {c : State → Prop} [∀ s, Decidable (c s)] {e : ErrKind}
    {pd : PReg} {f : State → List Byte} {l : List Byte}
    (hi : ∀ s, exec i s = runCommand i.opcode (fun s => require (c s) e (.ok (s.setPoly pd (f s)))) s)
    (he : s.err = 0) (hc : c s) (hf : f s = l) : exec i s = .next { s with poly := s.poly.set pd l } :=
  hf ▸ exec_of_rule_ok hi he (require_of_true hc _ _)

/-- A check that fails records its error, whatever the command would write. -/
theorem exec_of_failed_check {i : Instr} {s : State} {c : State → Prop} [∀ s, Decidable (c s)] {e : ErrKind}
    {k : State → Except ErrKind State} (hi : ∀ s, exec i s = runCommand i.opcode (fun s => require (c s) e (k s)) s)
    (he : s.err = 0) (hc : ¬ c s) : exec i s = .next (s.failed e.code i) :=
  exec_of_rule_error hi he (require_of_false hc _ _)

/-- Settles O23: each rule is a write of the register behind the check of its length. -/
theorem polyClearPushShift : Obligations.PolyClearPushShift := by
  intro pd pa imm s
  refine ⟨wordIs_of_bitsP (operandBits_pClr pd) rfl, wordIs_of_bitsP (operandBits_pPush pd imm) rfl,
    wordIs_of_bitsP (operandBits_pShift pd pa imm) rfl, fun he => ?_, fun he _ hlen => ?_, fun himm => ?_,
    fun he _ hlen => ?_, fun he hlen => ?_, fun he hlen => ?_⟩
  · exact exec_of_rule_ok (body := fun s => .ok (s.setPoly pd [])) (fun _ => rfl) he rfl
  · exact exec_of_checked_setPoly (fun _ => rfl) he hlen (mkPoly_zero _)
  · exact decode_encode_of_not_wellFormed (decide_eq_false himm.not_ge)
  · exact exec_of_failed_check (e := .resourceLimit) (fun _ => rfl) he (Nat.not_le_of_lt (Nat.lt_succ_of_le hlen))
  · exact exec_of_checked_setPoly (fun _ => rfl) he ((mkPoly_length _ _).trans_le hlen) rfl
  · exact exec_of_failed_check (e := .resourceLimit) (fun _ => rfl) he
      (Nat.not_le_of_lt (hlen.trans_eq (mkPoly_length _ _).symm))

/-- Settles O28: P_LEN has no check, P_GET reads behind the check of its index. -/
theorem polyReads : Obligations.PolyReads := by
  intro pa imm s
  refine ⟨wordIs_of_bitsP (operandBits_pLen pa) rfl, wordIs_of_bitsP (operandBits_pGet pa imm) rfl,
    fun he => ?_, fun c he hc => ?_, fun he hlen => ?_⟩
  · exact exec_of_rule_ok (body := fun s => .ok (s.setResult (zext32 (s.getPoly pa).length))) (fun _ => rfl) he rfl
  · obtain ⟨hlt, -⟩ := List.getElem?_eq_some_iff.mp hc
    refine exec_of_rule_ok (fun _ => rfl) he ((require_of_true hlt _ _).trans ?_)
    rw [State.getPoly, hc]
    rfl
  · exact exec_of_failed_check (e := .boundsViolation) (fun _ => rfl) he hlen.not_gt

end Sys2Proof.Machine
end

section
/-! PROOFS. Products of polynomials: the recursion of the model gives the sums of R135, and multiplication by `x - α^n` is
the step of the generator polynomial (42_polynomial.md R135, R137). -/

namespace Sys2Proof.Machine

/-! ### Coefficients -/

theorem gmul_comm (a b : Byte) : gmul a b = gmul b a :=
  if_congr or_comm rfl (congrArg gexp (add_comm _ _))

theorem polynomialProduct_comm (a b : Byte) : polynomialProduct a b = polynomialProduct b a := by
  rw [← gmul_eq_polynomialProduct, gmul_comm, gmul_eq_polynomialProduct]

theorem polynomialProduct_one_right (a : Byte) : polynomialProduct a 1 = a := by
  rw [polynomialProduct_comm, polynomialProduct_one_left]

theorem getD_map_polynomialProduct (c : Byte) (l : List Byte) (k : Nat) :
    ((l.map (polynomialProduct c))[k]?).getD 0 = polynomialProduct c ((l[k]?).getD 0) := by
  rw [List.getElem?_map, ← Option.getD_map (polynomialProduct c), polynomialProduct_zero_right]

/-- Two lists of one length are added coefficient by coefficient. -/
theorem getD_zipWith_xor {a b : List Byte} (h : a.length = b.length) (k : Nat) :
    ((List.zipWith (· ^^^ ·) a b)[k]?).getD 0 = (a[k]?).getD 0 ^^^ (b[k]?).getD 0 := by
  rw [List.getElem?_zipWith']
  by_cases hk : k < a.length
  · simp [hk, h ▸ hk]
  · simp [hk, h ▸ hk]

/-- Zeros at the end of a list are no coefficients. -/
theorem getD_append_replicate_zero (l : List Byte) (n k : Nat) :
    ((l ++ List.replicate n 0)[k]?).getD 0 = (l[k]?).getD 0 := by
  by_cases hk : k < l.length
  · rw [List.getElem?_append_left hk]
  · rw [List.getElem?_append_right (Nat.le_of_not_lt hk), List.getElem?_eq_none (Nat.le_of_not_lt hk),
      List.getElem?_replicate]
    split <;> rfl

/-- Two lists of one length with the same coefficients are the same list. -/
theorem eq_of_getD_eq {a b : List Byte} (hlen : a.length = b.length)
    (h : ∀ k : Nat, (a[k]?).getD 0 = (b[k]?).getD 0) : a = b := by
  refine List.ext_getElem hlen fun k ha hb => ?_
  simpa [ha, hb] using h k

/-! ### The sums of R135, by the first coefficient of the left factor -/

theorem productCoefficient_nil (b : List Byte) (k : Nat) : productCoefficient [] b k = 0 :=
  List.foldl_fixed' (fun _ => by rw [List.getElem?_nil, Option.getD_none, polynomialProduct_zero_left]; rfl) _

theorem productCoefficient_cons_zero (x : Byte) (xs b : List Byte) :
    productCoefficient (x :: xs) b 0 = polynomialProduct x ((b[0]?).getD 0) := by
  simp [productCoefficient]

theorem productCoefficient_cons_succ (x : Byte) (xs b : List Byte) (k : Nat) :
    productCoefficient (x :: xs) b (k + 1) =
      polynomialProduct x ((b[k + 1]?).getD 0) ^^^ productCoefficient xs b k := by
  rw [productCoefficient, List.range_succ_eq_map, List.foldl_cons, BitVec.xor_comm 0, List.foldl_map]
  refine List.foldl_hom (polynomialProduct x ((b[k + 1]?).getD 0) ^^^ ·) fun acc i => ?_
  rw [BitVec.xor_assoc, List.getElem?_cons_succ, Nat.add_sub_add_right]

/-! ### The product (R135) -/

/-- The coefficients of the product of the model are the sums of R135. -/
theorem getD_convolve {b : List Byte} (hb : b ≠ []) (a : List Byte) (k : Nat) :
    ((convolve a b)[k]?).getD 0 = productCoefficient a b k := by
  induction a generalizing k with
  | nil => exact (getD_append_replicate_zero [] (b.length - 1) k).trans (productCoefficient_nil b k).symm
  | cons x xs ih =>
    have hlen : (b.map (gmul x) ++ List.replicate xs.length 0).length = (0 :: convolve xs b).length := by
      have := List.length_pos_iff.mpr hb
      simp [convolve_length xs b hb]
      omega
    rw [convolve, padd, getD_zipWith_xor hlen, getD_append_replicate_zero, funext (gmul_eq_polynomialProduct x),
      getD_map_polynomialProduct]
    cases k with
    | zero => simp [productCoefficient_cons_zero]
    | succ k => rw [productCoefficient_cons_succ, List.getElem?_cons_succ, ih]

theorem convolve_eq_map_productCoefficient {b : List Byte} (hb : b ≠ []) (a : List Byte) :
    convolve a b = (List.range (a.length + b.length - 1)).map (productCoefficient a b) := by
  refine List.ext_getElem (by simp [convolve_length a b hb]) fun k hk hk' => ?_
  simpa [hk] using getD_convolve hb a k

theorem pmul_of_ne_nil {a b : List Byte} (ha : a ≠ []) (hb : b ≠ []) : pmul a b = (convolve a b).dropWhile (· == 0) := by
  rw [pmul, if_neg (by simp [ha, hb]), mkPoly_zero]

theorem pmul_of_eq_nil {a b : List Byte} (h : a = [] ∨ b = []) : pmul a b = [] :=
  if_pos (h.imp List.length_eq_zero_iff.mpr List.length_eq_zero_iff.mpr)

/-! ### The generator polynomial (R137) -/

theorem rsGenerator_length (n : Nat) : (rsGenerator n).length = n + 1 := by
  induction n with
  | zero => rfl
  | succ n ih => simp [rsGenerator, ih]

theorem rsGenerator_head? (n : Nat) : (rsGenerator n).head? = some 1 := by
  induction n with
  | zero => rfl
  | succ n ih =>
    obtain ⟨t, ht⟩ := List.head?_eq_some_iff.mp ih
    simp [rsGenerator, ht]

/-- A product with `x + c` is the shift of the other factor and `c` times it. -/
theorem productCoefficient_linear (g : List Byte) (c : Byte) (k : Nat) :
    productCoefficient g [1, c] k = (g[k]?).getD 0 ^^^ ((0 :: g.map (polynomialProduct c))[k]?).getD 0 := by
  induction g generalizing k with
  | nil => cases k <;> simp [productCoefficient_nil]
  | cons x xs ih =>
    match k with
    | 0 =>
      rw [productCoefficient_cons_zero, List.getElem?_cons_zero, Option.getD_some, polynomialProduct_one_right]
      simp
    | 1 =>
      rw [productCoefficient_cons_succ, ih, List.getElem?_cons_succ, List.getElem?_cons_zero, Option.getD_some,
        polynomialProduct_comm]
      simp [BitVec.xor_comm]
    | k + 2 =>
      rw [productCoefficient_cons_succ, ih, List.getElem?_cons_succ, List.getElem?_cons_succ, List.getElem?_nil,
        Option.getD_none, polynomialProduct_zero_right]
      simp

/-- The step of the generator polynomial is the product of the model. -/
theorem convolve_linear (g : List Byte) (c : Byte) :
    convolve g [1, c] = List.zipWith (· ^^^ ·) (g ++ [0]) (0 :: g.map (polynomialProduct c)) := by
  refine eq_of_getD_eq ((convolve_length g [1, c] (by simp)).trans (by simp)) fun k => ?_
  rw [getD_convolve (by simp), productCoefficient_linear, getD_zipWith_xor (by simp)]
  exact congrArg (· ^^^ _) (getD_append_replicate_zero g 1 k).symm

theorem gen_succ (n : Nat) : gen (n + 1) = pmul (gen n) [1, gexp n] := by
  rw [gen, List.range_succ, List.foldl_append]
  rfl

theorem gen_eq_rsGenerator (n : Nat) : gen n = rsGenerator n := by
  induction n with
  | zero => rfl
  | succ n ih =>
    have hne : rsGenerator n ≠ [] := List.ne_nil_of_length_eq_add_one (rsGenerator_length n)
    obtain ⟨t, ht⟩ := List.head?_eq_some_iff.mp (rsGenerator_head? (n + 1))
    calc gen (n + 1) = (convolve (rsGenerator n) [1, alphaPow n]).dropWhile (· == 0) := by
          rw [gen_succ, ih, gexp_natCast, pmul_of_ne_nil hne (by simp)]
      _ = (rsGenerator (n + 1)).dropWhile (· == 0) := by rw [convolve_linear, rsGenerator]
      _ = rsGenerator (n + 1) := by simp [ht]

/-! ### The commands -/

/-- Settles O24: the product of the model has the coefficients of R135. -/
theorem polyProduct : Obligations.PolyProduct := by
  intro pd pa pb s
  refine ⟨wordIs_of_bitsP (operandBits_pMul pd pa pb) rfl, fun he hnil => ?_, fun he ha hb hlen => ?_,
    fun he ha hb hlen => ?_⟩
  · have hzero := hnil.imp List.length_eq_zero_iff.mpr List.length_eq_zero_iff.mpr
    exact exec_of_checked_setPoly (fun _ => rfl) he (hzero.imp_right .inl) (pmul_of_eq_nil hnil)
  · refine exec_of_checked_setPoly (fun _ => rfl) he (.inr (.inr hlen)) ?_
    rw [← convolve_eq_map_productCoefficient hb]
    exact pmul_of_ne_nil ha hb
  · refine exec_of_failed_check (e := .resourceLimit) (fun _ => rfl) he ?_
    exact not_or.mpr ⟨mt List.length_eq_zero_iff.mp ha, not_or.mpr ⟨mt List.length_eq_zero_iff.mp hb, hlen.not_ge⟩⟩

/-- Settles O27: the product of the linear factors obeys the recurrence of the generator polynomial. -/
theorem polyGenerator : Obligations.PolyGenerator := by
  intro pd imm s
  refine ⟨wordIs_of_bitsP (operandBits_pGen pd imm) rfl, rsGenerator_length _, rsGenerator_head? _,
    fun he hlen => ?_, fun he hlen => ?_⟩
  · exact exec_of_checked_setPoly (fun _ => rfl) he (Nat.succ_le_succ hlen) (gen_eq_rsGenerator _)
  · exact exec_of_failed_check (e := .resourceLimit) (fun _ => rfl) he (Nat.not_le_of_lt (Nat.succ_lt_succ hlen))

end Sys2Proof.Machine
end

section
/-! PROOFS. Polynomial division: each turn of the model's loop takes a multiple of the divisor off, so the dividend is a
quotient times the divisor and the remainder (42_polynomial.md R136, R140). -/

namespace Sys2Proof.Machine

/-! ### One turn of the loop -/

/-- The field quotient of two non-zero elements, by their logarithms (42_polynomial.md R136). -/
def fieldQuotient (x y : Byte) : Byte := gexp ((logAt x : Int) - logAt y)

theorem polynomialProduct_fieldQuotient {x y : Byte} (hx : x ≠ 0) (hy : y ≠ 0) :
    polynomialProduct (fieldQuotient x y) y = x := by
  generalize hm : (((logAt x : Int) - logAt y) % 255).toNat = m
  have hmod : ((m + logAt y : Nat) : Int) % 255 = (logAt x : Int) % 255 := by omega
  calc polynomialProduct (fieldQuotient x y) y
      = polynomialProduct (alphaPow m) (alphaPow (logAt y)) := by
        rw [alphaPow_logAt hy, fieldQuotient, gexp_eq_alphaPow, hm]
    _ = gexp (m + logAt y : Nat) := by rw [polynomialProduct_alphaPow_left, ← alphaPow_add, gexp_natCast]
    _ = gexp (logAt x) := by rw [gexp, hmod, gexp]
    _ = x := by rw [gexp_natCast, alphaPow_logAt hx]

theorem getD_addLeading {a b : List Byte} (h : b.length ≤ a.length) (k : Nat) :
    ((addLeading a b)[k]?).getD 0 = (a[k]?).getD 0 ^^^ (b[k]?).getD 0 := by
  induction b generalizing a k with
  | nil => rw [addLeading, List.getElem?_nil, Option.getD_none]; exact BitVec.xor_zero.symm
  | cons y ys ih =>
    cases a with
    | nil => simp at h
    | cons x xs =>
      cases k with
      | zero => rfl
      | succ k => exact ih (Nat.le_of_succ_le_succ h) k

/-- The dividend `x :: xs` after one turn, without its leading coefficient, which is 0. -/
def divisionStep (x : Byte) (xs : List Byte) (y : Byte) (ys : List Byte) : List Byte :=
  addLeading xs (ys.map (polynomialProduct (fieldQuotient x y)))

theorem divisionStep_length (x : Byte) (xs : List Byte) (y : Byte) (ys : List Byte) :
    (divisionStep x xs y ys).length = xs.length := addLeading_length _ _

theorem getD_divisionStep {x y : Byte} {xs ys : List Byte} (h : ys.length ≤ xs.length) (k : Nat) :
    ((divisionStep x xs y ys)[k]?).getD 0 =
      (xs[k]?).getD 0 ^^^ polynomialProduct (fieldQuotient x y) ((ys[k]?).getD 0) := by
  rw [divisionStep, getD_addLeading (by rwa [List.length_map]), getD_map_polynomialProduct]

theorem pmodLoop_of_length_lt {a e : List Byte} (h : a.length < e.length) (fuel : Nat) :
    pmodLoop fuel a e = .ok a := by
  cases fuel with
  | zero => rfl
  | succ fuel => rw [pmodLoop, if_pos h]

theorem pmodLoop_turn {x y : Byte} {xs ys : List Byte} (hx : x ≠ 0) (hy : y ≠ 0) (h : ys.length ≤ xs.length)
    (fuel : Nat) :
    pmodLoop (fuel + 1) (x :: xs) (y :: ys) = pmodLoop fuel (mkPoly (divisionStep x xs y ys) 0) (y :: ys) := by
  have hmap : ((y :: ys).map fun c => gmul c (fieldQuotient x y)) =
      x :: ys.map (polynomialProduct (fieldQuotient x y)) := by
    simp only [fun c => gmul_comm c (fieldQuotient x y), gmul_eq_polynomialProduct, List.map_cons,
      polynomialProduct_fieldQuotient hx hy]
  rw [pmodLoop, if_neg (by simpa using h), List.headD_cons, List.headD_cons, glog_of_ne_zero hx, glog_of_ne_zero hy]
  show pmodLoop fuel (mkPoly (addLeading (x :: xs) ((y :: ys).map fun c => gmul c (fieldQuotient x y))) 0) (y :: ys) = _
  rw [hmap, addLeading, BitVec.xor_self]
  rfl

/-- A turn needs a leading coefficient of both that is not 0. -/
theorem pmodLoop_zero_head {a e : List Byte} (h : e.length ≤ a.length) (h0 : a.headD 0 = 0 ∨ e.headD 0 = 0)
    (fuel : Nat) : pmodLoop (fuel + 1) a e = .error .invalidFieldOperand := by
  rw [pmodLoop, if_neg h.not_gt]
  by_cases ha : a.headD 0 = 0
  · rw [ha, glog_zero]
    rfl
  · rw [glog_of_ne_zero ha, h0.resolve_left ha, glog_zero]
    rfl

/-! ### The remainder (R136) -/

/-- Coefficient `k` of `r` written as `n` coefficients, zeros in front. -/
def paddedCoefficient (n : Nat) (r : List Byte) (k : Nat) : Byte :=
  if n ≤ k + r.length then (r[k + r.length - n]?).getD 0 else 0

theorem paddedCoefficient_succ_zero {n : Nat} {r : List Byte} (h : r.length ≤ n) : paddedCoefficient (n + 1) r 0 = 0 :=
  if_neg (by omega)

theorem paddedCoefficient_succ_succ (n : Nat) (r : List Byte) (k : Nat) :
    paddedCoefficient (n + 1) r (k + 1) = paddedCoefficient n r k := by
  simp only [paddedCoefficient, Nat.add_right_comm k 1, Nat.add_le_add_iff_right, Nat.add_sub_add_right]

/-- Stripped leading zeros are the zeros in front. -/
theorem paddedCoefficient_dropWhile (d : List Byte) (k : Nat) :
    paddedCoefficient d.length (d.dropWhile (· == 0)) k = (d[k]?).getD 0 := by
  induction d generalizing k with
  | nil => rfl
  | cons x xs ih =>
    by_cases hx : x = 0
    · rw [hx, List.dropWhile_cons_of_pos rfl]
      cases k with
      | zero => exact paddedCoefficient_succ_zero (List.dropWhile_sublist _).length_le
      | succ k => rw [List.length_cons, paddedCoefficient_succ_succ, ih, List.getElem?_cons_succ]
    · rw [List.dropWhile_cons_of_neg (by simpa using hx), paddedCoefficient, if_pos (by omega), Nat.add_sub_cancel]

theorem mkPoly_head?_ne_zero (d : List Byte) : (mkPoly d 0).head? ≠ some 0 := by
  rw [mkPoly_zero]
  intro h
  have := List.head?_dropWhile_not (· == 0) d
  rw [h] at this
  exact absurd this (by decide)

/-- `d` is `q` times `e` and `r`, and `r` is canonical and shorter than `e` (42_polynomial.md R136). -/
structure IsDivision (d e q r : List Byte) : Prop where
  quotient_length : q.length + e.length = d.length + 1
  remainder_length : r.length < e.length
  remainder_head : r.head? ≠ some 0
  coefficient : ∀ k < d.length, (d[k]?).getD 0 = productCoefficient q e k ^^^ paddedCoefficient d.length r k

/-- A dividend one shorter than the divisor is its own remainder, its leading zeros stripped. -/
theorem isDivision_nil {d e : List Byte} (h : e.length = d.length + 1) : IsDivision d e [] (mkPoly d 0) where
  quotient_length := (Nat.zero_add _).trans h
  remainder_length := by have := mkPoly_length_le d 0; omega
  remainder_head := mkPoly_head?_ne_zero d
  coefficient k _ := by
    rw [productCoefficient_nil, mkPoly_zero, paddedCoefficient_dropWhile]
    exact BitVec.zero_xor.symm

/-- A division of what a turn leaves is a division of the dividend, its quotient extended by the coefficient `c` of the
turn. -/
theorem IsDivision.cons {x c y : Byte} {xs ds ys q r : List Byte} (h : IsDivision ds (y :: ys) q r)
    (hlen : ds.length = xs.length) (hx : polynomialProduct c y = x)
    (hds : ∀ k : Nat, (xs[k]?).getD 0 = polynomialProduct c ((ys[k]?).getD 0) ^^^ (ds[k]?).getD 0) :
    IsDivision (x :: xs) (y :: ys) (c :: q) r := by
  obtain ⟨hq, hr, hhead, hcoef⟩ := h
  refine ⟨by simp only [List.length_cons] at hq ⊢; omega, hr, hhead, fun k hk => ?_⟩
  rw [List.length_cons] at hr hq hk ⊢
  cases k with
  | zero =>
    rw [productCoefficient_cons_zero, paddedCoefficient_succ_zero (by omega), List.getElem?_cons_zero,
      List.getElem?_cons_zero, Option.getD_some, Option.getD_some, hx]
    exact BitVec.xor_zero.symm
  | succ k =>
    rw [productCoefficient_cons_succ, paddedCoefficient_succ_succ, List.getElem?_cons_succ, List.getElem?_cons_succ,
      hds, hcoef k (by omega), hlen, BitVec.xor_assoc]

/-- The loop divides: `n` is the number of coefficients of the quotient, one for each leading coefficient of the dividend
that a turn or the stripping of zeros takes off. -/
theorem pmodLoop_isDivision {y : Byte} {ys : List Byte} (hy : y ≠ 0) {n fuel : Nat} {d : List Byte}
    (hn : d.length = n + ys.length) (hfuel : n ≤ fuel) :
    ∃ q r, IsDivision d (y :: ys) q r ∧ pmodLoop fuel (mkPoly d 0) (y :: ys) = .ok r := by
  induction n generalizing d fuel with
  | zero =>
    have hdiv := isDivision_nil (d := d) (e := y :: ys) (by simp; omega)
    exact ⟨[], _, hdiv, pmodLoop_of_length_lt hdiv.remainder_length fuel⟩
  | succ n ih =>
    obtain ⟨x, xs, rfl⟩ := List.exists_cons_of_length_pos (l := d) (by omega)
    have hxs : xs.length = n + ys.length := by simp only [List.length_cons] at hn; omega
    by_cases hx : x = 0
    · obtain ⟨q, r, hdiv, hloop⟩ := ih hxs (fuel := fuel) (by omega)
      refine ⟨0 :: q, r, hdiv.cons rfl (by rw [hx, polynomialProduct_zero_left]) fun k => ?_, ?_⟩
      · rw [polynomialProduct_zero_left]
        exact BitVec.zero_xor.symm
      · rwa [mkPoly_zero, hx, List.dropWhile_cons_of_pos rfl, ← mkPoly_zero]
    · obtain ⟨fuel, rfl⟩ := Nat.exists_eq_add_one_of_ne_zero (n := fuel) (by omega)
      obtain ⟨q, r, hdiv, hloop⟩ := ih (d := divisionStep x xs y ys) (fuel := fuel)
        (by rw [divisionStep_length, hxs]) (by omega)
      refine ⟨fieldQuotient x y :: q, r, hdiv.cons (divisionStep_length x xs y ys) ?_ fun k => ?_, ?_⟩
      · exact polynomialProduct_fieldQuotient hx hy
      · rw [getD_divisionStep (by omega), BitVec.xor_comm, BitVec.xor_assoc, BitVec.xor_self]
        exact BitVec.xor_zero.symm
      · rw [mkPoly_zero, List.dropWhile_cons_of_neg (by simpa using hx), pmodLoop_turn hx hy (by omega), hloop]

/-! ### The command -/

theorem pmod_of_ne_nil (a : List Byte) {e : List Byte} (he : e ≠ []) : pmod a e = pmodLoop (a.length + 1) a e :=
  require_of_true (List.length_pos_iff.mpr he) _ _

theorem pmod_nil (a : List Byte) : pmod a [] = .error .invalidFieldOperand := rfl

theorem pmod_of_length_lt {a e : List Byte} (h : a.length < e.length) : pmod a e = .ok a := by
  rw [pmod_of_ne_nil a (List.ne_nil_of_length_pos (by omega)), pmodLoop_of_length_lt h]

theorem headD_eq_zero {l : List Byte} (h : l.head? = some 0) : l.headD 0 = 0 := by
  rw [List.headD_eq_head?_getD, h, Option.getD_some]

theorem pmod_of_zero_head {a e : List Byte} (he : e ≠ []) (h : e.length ≤ a.length)
    (h0 : a.head? = some 0 ∨ e.head? = some 0) : pmod a e = .error .invalidFieldOperand := by
  rw [pmod_of_ne_nil a he, pmodLoop_zero_head h (h0.imp headD_eq_zero headD_eq_zero)]

theorem pmod_isDivision {a e : List Byte} (hne : e ≠ []) (h : e.length ≤ a.length) (ha : a.head? ≠ some 0)
    (he : e.head? ≠ some 0) : ∃ q r, IsDivision a e q r ∧ pmod a e = .ok r := by
  obtain ⟨y, ys, rfl⟩ := List.exists_cons_of_ne_nil hne
  have hstripped : mkPoly a 0 = a := by
    cases a with
    | nil => rfl
    | cons x xs => rw [mkPoly_zero, List.dropWhile_cons_of_neg]; simpa using ha
  rw [pmod_of_ne_nil a hne]
  have hdiv := pmodLoop_isDivision (y := y) (ys := ys) (n := a.length - ys.length) (fuel := a.length + 1) (d := a)
    (by simpa using he) (by simp only [List.length_cons] at h; omega) (by omega)
  rwa [hstripped] at hdiv

/-- A remainder is shorter than the divisor. -/
theorem pmod_length_lt {a e r : List Byte} (h : pmod a e = .ok r) : r.length < e.length := by
  by_cases hne : e = []
  · cases (hne ▸ pmod_nil a).symm.trans h
  by_cases hlt : a.length < e.length
  · cases (pmod_of_length_lt hlt).symm.trans h
    exact hlt
  by_cases h0 : a.head? = some 0 ∨ e.head? = some 0
  · cases (pmod_of_zero_head hne (Nat.le_of_not_lt hlt) h0).symm.trans h
  obtain ⟨ha, he⟩ := not_or.mp h0
  obtain ⟨q, r', hdiv, hr⟩ := pmod_isDivision hne (Nat.le_of_not_lt hlt) ha he
  cases hr.symm.trans h
  exact hdiv.remainder_length

theorem setPoly_setPoly (s : State) (r : PReg) (l l' : List Byte) : (s.setPoly r l).setPoly r l' = s.setPoly r l' := by
  simp only [State.setPoly, Vector.set_set]

section Command

variable {pd pa pb : PReg} {s : State}

theorem exec_pMod_of_ok {r : List Byte} (he : s.err = 0) (h : pmod s.poly[pa] s.poly[pb] = .ok r) :
    exec (.pMod pd pa pb) s = .next (s.setPoly pd r) :=
  exec_of_rule_ok (fun _ => rfl) he (congrArg (Except.map fun r => s.setPoly pd r) h)

theorem exec_pMod_of_error {e : ErrKind} (he : s.err = 0) (h : pmod s.poly[pa] s.poly[pb] = .error e) :
    exec (.pMod pd pa pb) s = .next (s.failed e.code (.pMod pd pa pb)) :=
  exec_of_rule_error (fun _ => rfl) he (congrArg (Except.map fun r => s.setPoly pd r) h)

end Command

/-- Settles O25: the loop divides. -/
theorem polyRemainder : Obligations.PolyRemainder := by
  rintro pd pa pb a b s rfl rfl
  refine ⟨wordIs_of_bitsP (operandBits_pMod pd pa pb) rfl, fun he hb => ?_, fun he hlt => ?_, fun he hb hle h0 => ?_,
    fun he hb hle ha0 hb0 => ?_⟩
  · exact exec_pMod_of_error he (hb ▸ pmod_nil _)
  · exact exec_pMod_of_ok he (pmod_of_length_lt hlt)
  · exact exec_pMod_of_error he (pmod_of_zero_head hb hle h0)
  · obtain ⟨q, r, ⟨hq, hr, hhead, hcoef⟩, hpmod⟩ := pmod_isDivision hb hle ha0 hb0
    exact ⟨q, r, hq, hr, hhead, hcoef, exec_pMod_of_ok he hpmod⟩

/-- Settles O26: a remainder is shorter than the divisor, and a dividend shorter than the divisor is its own remainder. -/
theorem polyRemainderIdempotent : Obligations.PolyRemainderIdempotent := by
  intro pd pa pb s t hne he h ht
  cases hr : pmod s.poly[pa] s.poly[pb] with
  | error e =>
    cases (exec_pMod_of_error he hr).symm.trans h
    cases e <;> cases ht
  | ok r =>
    have hlt : r.length < s.poly[pb].length := pmod_length_lt hr
    have hpd : (s.setPoly pd r).poly[pd] = r := getPoly_setPoly s pd r
    have hpb : (s.setPoly pd r).poly[pb] = s.poly[pb] := getPoly_setPoly_ne s r hne
    have hagain : pmod (s.setPoly pd r).poly[pd] (s.setPoly pd r).poly[pb] = .ok r := by
      rw [hpd, hpb, pmod_of_length_lt hlt]
    cases (exec_pMod_of_ok he hr).symm.trans h
    exact ⟨by rwa [hpd, hpb], (exec_pMod_of_ok ht hagain).trans (by rw [setPoly_setPoly])⟩

end Sys2Proof.Machine
end

section
/-! PROOFS. The bit buffer: the commands that clear it, append to it and read it (43_bitbuffer.md R160 to R169). -/

namespace Sys2Proof.Machine

/-! ## The bits of the buffer -/

/-- The bits BB_PUT appends are those the statements name (43_bitbuffer.md R161). -/
theorem msbBits_eq_msbFirst (v size : Nat) : msbBits v size = msbFirst v size :=
  List.ext_getElem (by simp [msbFirst]) fun i _ _ => by simp [msbBits, msbFirst]

theorem bitsToNat_append_singleton (bits : List Bool) (b : Bool) :
    bitsToNat (bits ++ [b]) = Nat.bit b (bitsToNat bits) := by
  rw [bitsToNat, List.foldl_append, Nat.bit_val]
  rfl

/-- The last bit of the list is bit 0 of the number. -/
theorem testBit_bitsToNat (bits : List Bool) (i : Nat) :
    (bitsToNat bits).testBit i = (bits.reverse[i]?).getD false := by
  induction bits using List.reverseRecOn generalizing i with
  | nil => exact Nat.zero_testBit i
  | append_singleton bits b ih =>
    rw [bitsToNat_append_singleton, List.reverse_concat]
    cases i with
    | zero => exact Nat.testBit_bit_zero b _
    | succ i => rw [Nat.testBit_bit_succ, ih, List.getElem?_cons_succ]

/-- Bit `8k + j` of the buffer is bit `7 - j` of byte `k` (43_bitbuffer.md R165). -/
theorem byteAt_getLsbD (bb : List Bool) (k : Nat) {j : Nat} (hj : j < 8) :
    (byteAt bb k).getLsbD (7 - j) = bitAt bb (8 * k + j) := by
  have hlt : 7 - j < 8 := by omega
  have hindex : 8 - 1 - (7 - j) = j := by omega
  rw [byteAt, BitVec.getLsbD_ofNat, testBit_bitsToNat, List.getElem?_reverse (by simpa using hlt)]
  simp [hlt, hindex, hj]

theorem flagBit_bitAt (bb : List Bool) (i : Nat) : flagBit (bitAt bb i) = if bb[i]? = some true then 1 else 0 := by
  rw [flagBit, bitAt]
  rcases bb[i]? with _ | _ | _ <;> rfl

theorem bitAt_append_left {bb : List Bool} {i : Nat} (h : i < bb.length) (bits : List Bool) :
    bitAt (bb ++ bits) i = bitAt bb i := by
  rw [bitAt, List.getElem?_append_left h, bitAt]

/-- Past the earlier bits stand the bits that were put, the most significant first. -/
theorem bitAt_append_msbFirst {bb : List Bool} {v size i : Nat} (hle : bb.length ≤ i) (hlt : i < bb.length + size) :
    bitAt (bb ++ msbFirst v size) i = v.testBit (size - 1 - (i - bb.length)) := by
  rw [bitAt, List.getElem?_append_right hle, ← msbBits_eq_msbFirst, msbBits_getElem? _ _ _ (by omega), Option.getD_some]

/-- The operand of BB_PUTBIT is its bit (43_bitbuffer.md R164). -/
theorem beq_one_eq_getLsbD {b : Byte} (h : b.toNat ≤ 1) : (b == 1) = b.getLsbD 0 := by
  obtain h | h : b.toNat = 0 ∨ b.toNat = 1 := by omega
  · rw [BitVec.eq_of_toNat_eq (y := 0) h]; rfl
  · rw [BitVec.eq_of_toNat_eq (y := 1) h]; rfl

/-! ## The commands -/

section Command

variable {s : State}

/-- An append that finds room (43_bitbuffer.md R163, R164). -/
theorem exec_of_append {i : Instr} {n : Nat} {bits bits' : List Bool}
    (hi : ∀ s, exec i s = runCommand i.opcode
      (fun s => require (s.bb.length + n ≤ Config.bbCapBits) .resourceLimit (.ok (s.writeBb (s.bb ++ bits)))) s)
    (he : s.err = 0) (hroom : s.bb.length + n ≤ 32768) (hbits : bits = bits') :
    exec i s = .next { s with bb := s.bb ++ bits', rsValid := false } :=
  hbits ▸ exec_of_rule_ok hi he (require_of_true hroom _ _)

theorem exec_bbPut_of_room {size : BitVec 5} (val : Half) (he : s.err = 0) (hroom : s.bb.length + size.toNat ≤ 32768) :
    exec (.bbPut size val) s = .next { s with bb := s.bb ++ msbFirst val.toNat size.toNat, rsValid := false } :=
  exec_of_append (fun _ => rfl) he hroom (msbBits_eq_msbFirst _ _)

theorem exec_bbPut_of_full {size : BitVec 5} (val : Half) (he : s.err = 0) (hfull : 32768 < s.bb.length + size.toNat) :
    exec (.bbPut size val) s = .next (s.failed 7 (.bbPut size val)) :=
  exec_of_failed_check (e := .resourceLimit) (fun _ => rfl) he hfull.not_ge

/-- A BB_PUT that leaves no error found room, and appended its bits (43_bitbuffer.md R163). -/
theorem bbPut_appended {size : BitVec 5} {val : Half} {t : State} (he : s.err = 0)
    (h : exec (.bbPut size val) s = .next t) (ht : t.err = 0) :
    t = { s with bb := s.bb ++ msbFirst val.toNat size.toNat, rsValid := false } := by
  rcases le_or_gt (s.bb.length + size.toNat) 32768 with hroom | hfull
  · cases (exec_bbPut_of_room val he hroom).symm.trans h
    rfl
  · cases (exec_bbPut_of_full val he hfull).symm.trans h
    cases ht

/-- BB_GET within the bytes of the buffer, the zero-filled tail of the last one included (43_bitbuffer.md R166). -/
theorem exec_bbGet_of_lt {imm : Half} (he : s.err = 0) (h : imm.toNat < 8 * ((s.bb.length + 7) / 8)) :
    exec (.bbGet imm) s = .next { s with result := flagBit (bitAt s.bb imm.toNat) } :=
  exec_of_rule_ok (fun _ => rfl) he (require_of_true h _ _)

theorem exec_bbGetByte_of_lt {imm : Half} (he : s.err = 0) (h : imm.toNat < (s.bb.length + 7) / 8) :
    exec (.bbGetByte imm) s = .next { s with result := (byteAt s.bb imm.toNat).setWidth 32 } :=
  exec_of_rule_ok (fun _ => rfl) he (require_of_true h _ _)

end Command

/-- Settles O29: each append is a write of the buffer behind the check of its capacity. -/
theorem bitBufferAppends : Obligations.BitBufferAppends := by
  intro size val b s
  refine ⟨wordIs_of_operandBits (i := .bbClr) rfl, wordIs_of_operandBits (bitsS_toNat size val),
    wordIs_of_operandBits (Laws.bitsB_toNat b), fun he => ?_, fun he _ hroom => exec_bbPut_of_room val he hroom,
    fun hsize => ?_, fun he _ hfull => exec_bbPut_of_full val he hfull, fun he hb hroom => ?_, fun hb => ?_,
    fun he _ hfull => ?_⟩
  · exact exec_of_rule_ok (body := fun s => .ok (s.writeBb [])) (fun _ => rfl) he rfl
  · exact decode_encode_of_not_wellFormed (decide_eq_false hsize.not_ge)
  · exact exec_of_append (fun _ => rfl) he hroom (congrArg (fun x => [x]) (beq_one_eq_getLsbD hb))
  · exact decode_encode_of_not_wellFormed (decide_eq_false hb.not_ge)
  · exact exec_of_failed_check (e := .resourceLimit) (fun _ => rfl) he (Nat.not_le_of_lt (Nat.lt_succ_of_le hfull))

/-- Settles O30: each read is behind the check of its index against the bytes of the buffer. -/
theorem bitBufferReads : Obligations.BitBufferReads := by
  intro imm s
  refine ⟨wordIs_of_operandBits (Laws.bitsImm_toNat imm), wordIs_of_operandBits (Laws.bitsImm_toNat imm),
    wordIs_of_operandBits (i := .bbLen) rfl, fun he hlt => ?_, fun he hge => ?_, fun he hlt => ?_, fun he hge => ?_,
    fun he => ?_⟩
  · rw [exec_bbGet_of_lt he hlt, flagBit_bitAt]
  · exact exec_of_failed_check (e := .boundsViolation) (fun _ => rfl) he hge.not_gt
  · exact ⟨byteAt s.bb imm.toNat, fun _ => byteAt_getLsbD s.bb imm.toNat, exec_bbGetByte_of_lt he hlt⟩
  · exact exec_of_failed_check (e := .boundsViolation) (fun _ => rfl) he hge.not_gt
  · exact exec_of_rule_ok (body := fun s => .ok (s.setResult (zext32 s.bb.length))) (fun _ => rfl) he rfl

/-- Settles O31: the buffer is the earlier bits followed by those that were put, and BB_GET reads it at its index. -/
theorem bitBufferReadsWhatWasPut : Obligations.BitBufferReadsWhatWasPut := by
  intro size val imm s t he _ h ht
  have hbb : t.bb = s.bb ++ msbFirst val.toNat size.toNat := congrArg State.bb (bbPut_appended he h ht)
  have hlen : t.bb.length = s.bb.length + size.toNat := by rw [hbb, List.length_append, msbFirst, List.length_ofFn]
  refine ⟨hlen, fun hle hlt => ?_, fun hlt => ?_⟩
  · rw [exec_bbGet_of_lt ht (by omega), hbb, bitAt_append_msbFirst hle (hlt.trans_eq hlen)]
    rfl
  · rw [exec_bbGet_of_lt ht (by omega), hbb, bitAt_append_left hlt, flagBit_bitAt]

end Sys2Proof.Machine
end

section
/-! PROOFS. A symbol is configured and filled with segments (44_encoder.md R180, R189, R190, 10_state.md R37). -/

namespace Sys2Proof.Machine

/-! ### Commands that require a configured symbol (60_exceptions.md R314) -/

section Symbol

variable {i : Instr} {s : State} {k : State → Except ErrKind State}

/-- Without a symbol the first check fails. -/
theorem exec_of_unconfigured (hi : ∀ s, exec i s = runCommand i.opcode (fun s => requireSymbol s (k s)) s)
    (hs : s.unconfigured) : exec i s = .next (s.failed 6 i) :=
  exec_of_rule_error (e := .sequenceError) hi hs.1 (requireSymbol_of_invalid hs.2 _)

/-- With a symbol a command does what the rest of its rule does. -/
theorem exec_of_configured_ok {t : State}
    (hi : ∀ s, exec i s = runCommand i.opcode (fun s => requireSymbol s (k s)) s) (hs : s.configured)
    (hk : k s = .ok t) : exec i s = .next t :=
  exec_of_rule_ok hi hs.1 ((requireSymbol_of_valid hs.2 _).trans hk)

/-- With a symbol a command fails as the rest of its rule does. -/
theorem exec_of_configured_error {e : ErrKind}
    (hi : ∀ s, exec i s = runCommand i.opcode (fun s => requireSymbol s (k s)) s) (hs : s.configured)
    (hk : k s = .error e) : exec i s = .next (s.failed e.code i) :=
  exec_of_rule_error hi hs.1 ((requireSymbol_of_valid hs.2 _).trans hk)

end Symbol

/-! ### The configuration -/

theorem versionOf_toNat {a : Byte} (h : a.toNat ≤ 40) : (versionOf a).toNat = a.toNat := by
  rw [versionOf, BitVec.toNat_setWidth, Nat.mod_eq_of_lt (by omega)]

/-- Settles O32: one check, then the write of the new symbol. -/
theorem symbolConfiguration : Obligations.SymbolConfiguration := by
  refine fun a b s => ⟨wordIs_of_operandBits (Laws.bitsAB_toNat a b), fun he hlo hhi hb => ?_, fun he hbad => ?_⟩
  · have hrun : exec (.symCfg a b) s = .next (s.configure (versionOf a) (eclCode b)) :=
      exec_of_rule_ok (fun _ => rfl) he (require_of_true ⟨⟨hlo, hhi⟩, hb⟩ _ _)
    rw [hrun, State.configure, versionOf_toNat hhi, BitVec.ofNat_toNat, BitVec.ofNat_toNat]
    rfl
  · refine exec_of_failed_check (e := .configurationError) (fun _ => rfl) he fun ⟨⟨hlo, hhi⟩, hb⟩ => ?_
    obtain rfl | hv | hl := hbad
    · exact absurd hlo (by decide)
    · exact hv.not_ge hhi
    · exact hl.not_ge hb

/-! ### The segments as byte lists (10_state.md R37) -/

theorem segments_append (pay : List Byte) (a b : List Nat) :
    segments pay (a ++ b) = segments pay a ++ segments (pay.drop a.sum) b := by
  induction a generalizing pay with
  | nil => rfl
  | cons len a ih => rw [List.cons_append, segments, segments, ih, List.sum_cons, List.drop_drop, List.cons_append]

/-- A segment is the part of the payload after the segments before it. -/
theorem segments_getElem? (pay : List Byte) (seg : List Nat) (k : Nat) :
    (segments pay seg)[k]? = (seg[k]?).map fun len => (pay.drop (seg.take k).sum).take len := by
  induction seg generalizing pay k with
  | nil => rfl
  | cons len seg ih =>
    cases k with
    | zero => rfl
    | succ k =>
      rw [segments, List.getElem?_cons_succ, List.getElem?_cons_succ, ih, List.take_succ_cons, List.sum_cons]
      simp only [List.drop_drop]

/-- The segments do not depend on the payload past their end. -/
theorem segments_append_payload {pay : List Byte} {seg : List Nat} (h : seg.sum ≤ pay.length) (rest : List Byte) :
    segments (pay ++ rest) seg = segments pay seg := by
  induction seg generalizing pay with
  | nil => rfl
  | cons len seg ih =>
    rw [List.sum_cons] at h
    rw [segments, segments, List.take_append_of_le_length (by omega), List.drop_append_of_le_length (by omega),
      ih (by rw [List.length_drop]; omega)]

/-- A byte more in the payload and in the last segment is a byte at the end of the last segment. -/
theorem segments_appendByte {pay : List Byte} {before : List Nat} {last : Nat}
    (h : (before ++ [last]).sum = pay.length) (b : Byte) :
    segments (pay ++ [b]) (before ++ [last + 1]) = segments pay before ++ [pay.drop before.sum ++ [b]] := by
  rw [List.sum_append, List.sum_singleton] at h
  have hlen : (pay.drop before.sum ++ [b]).length = last + 1 := by
    rw [List.length_append, List.length_drop, List.length_singleton]; omega
  rw [segments_append, segments_append_payload (by omega), List.drop_append_of_le_length (by omega), segments, segments,
    ← hlen, List.take_length]

theorem modify_last (before : List Nat) (last : Nat) :
    (before ++ [last]).modify ((before ++ [last]).length - 1) (· + 1) = before ++ [last + 1] := by
  rw [List.length_append, List.length_singleton, Nat.add_sub_cancel]
  induction before with
  | nil => rfl
  | cons x before ih => rw [List.cons_append, List.length_cons, List.modify_succ_cons, ih, List.cons_append]

theorem exec_segBegin (s : State) :
    exec .segBegin s = runCommand Instr.segBegin.opcode (fun s => requireSymbol s <|
      require (s.seg.length < 2048) .capacityOverflow <| .ok s.openSegment) s := rfl

theorem exec_segByte (b : Byte) (s : State) :
    exec (.segByte b) s = runCommand (Instr.segByte b).opcode (fun s => requireSymbol s <|
      require (1 ≤ s.seg.length) .sequenceError <| require (s.pay.length < 4096) .capacityOverflow <|
        .ok (s.appendByte b)) s := rfl

/-- Settles O33: the checks in their order, and what an append does to the segments. -/
theorem segmentAppends : Obligations.SegmentAppends := by
  intro b s
  refine ⟨wordIs_of_operandBits (i := .segBegin) rfl, wordIs_of_operandBits (Laws.bitsB_toNat b),
    exec_of_unconfigured exec_segBegin, exec_of_unconfigured (exec_segByte b), fun hs hlen => ?_, fun hs hfull => ?_,
    fun before last hs hseg hlen => ?_, fun hs hseg => ?_, fun hs hseg hfull => ?_, fun hsum => ⟨fun k len hk => ?_, ?_,
      fun before last hseg => segments_appendByte (hseg ▸ hsum) b⟩⟩
  · exact exec_of_configured_ok exec_segBegin hs (require_of_true hlen _ _)
  · exact exec_of_configured_error exec_segBegin hs (require_of_false hfull.not_gt .capacityOverflow _)
  · have hrun : exec (.segByte b) s = .next (s.appendByte b) :=
      exec_of_configured_ok (exec_segByte b) hs
        ((require_of_true (by simp [hseg]) _ _).trans (require_of_true hlen _ _))
    rw [hrun, ← modify_last, ← hseg]
    rfl
  · exact exec_of_configured_error (exec_segByte b) hs (require_of_false (by simp [hseg]) .sequenceError _)
  · exact exec_of_configured_error (exec_segByte b) hs
      ((require_of_true (List.length_pos_iff.mpr hseg) _ _).trans (require_of_false hfull.not_gt .capacityOverflow _))
  · rw [segments_getElem?, hk]
    rfl
  · rw [segments_append]
    rfl

end Sys2Proof.Machine
end

section
/-! PROOFS. The data bitstream: the segments, zeros to the byte boundary, and the pad bytes up to the capacity
(44_encoder.md R184 to R196). -/

namespace Sys2Proof.Machine

/-! ### Segments -/

theorem segmentBits_eq_segmentStream (v : Nat) (seg : List Byte) : segmentBits v seg = segmentStream v seg := by
  simp only [segmentBits, segmentStream, msbBits_eq_msbFirst, lenWidth]

/-! ### The terminator and the zeros to the byte boundary (R193, R195) -/

/-- The length of the terminator of a stream of `len` bits (R193). -/
def terminatorLength (total len : Nat) : Nat := if len + 4 ≤ total then 4 else 0

theorem terminatorLength_le {total len : Nat} (h : len ≤ total) : len + terminatorLength total len ≤ total := by
  unfold terminatorLength
  split <;> omega

theorem withTerminator_eq (total : Nat) (bb : List Bool) :
    withTerminator total bb = bb ++ List.replicate (terminatorLength total bb.length) false := by
  unfold withTerminator terminatorLength
  split
  · rfl
  · exact (List.append_nil bb).symm

/-- Terminator and alignment are zeros up to a whole number of bytes. -/
theorem byteAligned_append_zeros (bb : List Bool) (n : Nat) :
    byteAligned (bb ++ List.replicate n false) =
      bb ++ List.replicate (8 * ((bb.length + n + 7) / 8) - bb.length) false := by
  rw [byteAligned, List.append_assoc, List.replicate_append_replicate, List.length_append, List.length_replicate]
  congr 2
  omega

/-! ### Whole bytes of a stream -/

/-- Bit `8k + j` of the bits of some bytes is bit `7 - j` of byte `k` (43_bitbuffer.md R165). -/
theorem bitAt_bitsOfBytes (l : List Byte) (k : Nat) {j : Nat} (hj : j < 8) :
    bitAt (l.flatMap fun b => msbBits b.toNat 8) (8 * k + j) = ((l[k]?).getD 0).getLsbD (7 - j) := by
  induction l generalizing k with
  | nil => exact (BitVec.getLsbD_zero).symm
  | cons b l ih =>
    rw [List.flatMap_cons]
    cases k with
    | zero =>
      rw [Nat.mul_zero, Nat.zero_add, bitAt_append_left (by rwa [msbBits_length]), bitAt, msbBits_getElem? _ _ _ hj]
      rfl
    | succ k =>
      rw [List.getElem?_cons_succ, ← ih k, bitAt, List.getElem?_append_right (by rw [msbBits_length]; omega),
        msbBits_length, show 8 * (k + 1) + j - 8 = 8 * k + j by omega, bitAt]

/-- The bytes after `n` whole bytes of a stream. -/
theorem byteAt_append_bitsOfBytes {bb : List Bool} {n k : Nat} (hbb : bb.length = 8 * n) (hk : n ≤ k) (l : List Byte) :
    byteAt (bb ++ l.flatMap fun b => msbBits b.toNat 8) k = (l[k - n]?).getD 0 := by
  refine BitVec.eq_of_getLsbD_eq fun i hi => ?_
  obtain ⟨j, hj, rfl⟩ : ∃ j < 8, 7 - j = i := ⟨7 - i, by omega, by omega⟩
  rw [byteAt_getLsbD _ _ hj, ← bitAt_bitsOfBytes l _ hj, bitAt, List.getElem?_append_right (by omega), hbb,
    show 8 * k + j - 8 * n = 8 * (k - n) + j by omega, bitAt]

/-- The pad bytes are `0xEC` and `0x11` in turn (R195). -/
theorem padBytes_getElem? {n i : Nat} (h : i < n) : (padBytes n)[i]? = some (if i % 2 = 0 then 0xEC else 0x11) := by
  induction n using padBytes.induct generalizing i with
  | case1 => exact absurd h (Nat.not_lt_zero i)
  | case2 => rw [Nat.lt_one_iff.mp h]; rfl
  | case3 n ih =>
    match i with
    | 0 => rfl
    | 1 => rfl
    | i + 2 => rw [padBytes, List.getElem?_cons_succ, List.getElem?_cons_succ, ih (by omega), Nat.add_mod_right]

/-! ### The bitstream (R191, R192) -/

theorem assemble_of_fits {v : Nat} {l : BitVec 2} {segs : List (List Byte)}
    (h : (segs.map (segBits v)).sum ≤ 8 * totalDataCount v l) :
    assemble v l segs = .ok (padded (8 * totalDataCount v l)
      (byteAligned (withTerminator (8 * totalDataCount v l) (segs.flatMap (segmentBits v))))) := require_of_true h _ _

/-- Padding a stream that fits a capacity of whole bytes gives the data bitstream of its segments. -/
theorem isDataStream_padded {v total bytes : Nat} {segs : List (List Byte)} {bb : List Bool}
    (htotal : total = 8 * bytes) (hfit : (segs.flatMap (segmentStream v)).length ≤ total)
    (hbb : bb = padded total (byteAligned (withTerminator total (segs.flatMap (segmentStream v)))))
    (hlen : bb.length = total) : isDataStream v total segs bb := by
  generalize hstream : segs.flatMap (segmentStream v) = stream at hfit hbb
  generalize hused : stream.length + terminatorLength total stream.length = used
  have hused_le : used ≤ total := hused ▸ terminatorLength_le hfit
  have hle : stream.length ≤ 8 * ((used + 7) / 8) := by omega
  generalize hzeros : List.replicate (8 * ((used + 7) / 8) - stream.length) false = zeros
  have hzeros_length : zeros.length = 8 * ((used + 7) / 8) - stream.length := hzeros ▸ List.length_replicate
  have haligned : (stream ++ zeros).length = 8 * ((used + 7) / 8) := by rw [List.length_append]; omega
  rw [withTerminator_eq, byteAligned_append_zeros, hused, hzeros, padded, haligned] at hbb
  refine ⟨stream, used, hstream.symm, hused.symm, hlen, ?_, fun i hlo hhi => ?_, fun k hlo hhi => ?_⟩
  · rw [hbb, List.append_assoc, List.take_left]
  · rw [hbb, List.getElem?_append_left (by omega), List.getElem?_append_right hlo, ← hzeros,
      List.getElem?_replicate_of_lt (by omega)]
  · rw [hbb, byteAt_append_bitsOfBytes haligned hlo, padBytes_getElem? (by omega), Option.getD_some]

theorem dataStream_of_fits {s : State} (h : s.fits) : ∃ bb, s.dataStream = .ok bb ∧
    isDataStream s.version.toNat (8 * totalDataCount s.version.toNat s.ecl) (segments s.pay s.seg) bb := by
  have hbits : segmentBits s.version.toNat = segmentStream s.version.toNat :=
    funext (segmentBits_eq_segmentStream s.version.toNat)
  have hstream := segmentStream_length s.version.toNat (segments s.pay s.seg)
  have hok : s.dataStream = .ok _ := assemble_of_fits h
  rw [hbits] at hstream hok
  exact ⟨_, hok, isDataStream_padded rfl (hstream.trans_le h) rfl (assemble_length hok)⟩

theorem dataStream_of_not_fits {s : State} (h : ¬ s.fits) : s.dataStream = .error .capacityOverflow :=
  require_of_false h _ _

theorem exec_encData (s : State) :
    exec .encData s = runCommand Instr.encData.opcode
      (fun s => requireSymbol s <| s.dataStream.map fun bb => s.writeBb bb) s := rfl

/-- Settles O34: the data bitstream of segments that fit. -/
theorem dataStreamAssembly : Obligations.DataStreamAssembly := by
  refine fun s => ⟨wordIs_of_operandBits (i := .encData) rfl, fun hs hfits => ?_, exec_of_unconfigured exec_encData,
    fun hs hfits => ?_⟩
  · obtain ⟨bb, hok, hbb⟩ := dataStream_of_fits hfits
    refine ⟨bb, hbb, exec_of_configured_ok exec_encData hs ?_⟩
    rw [hok]
    rfl
  · refine exec_of_configured_error (e := .capacityOverflow) exec_encData hs ?_
    rw [dataStream_of_not_fits hfits]
    rfl

end Sys2Proof.Machine
end

section
/-! PROOFS. The interleaver: an element stands after the columns before its own, and after the elements of its column
that are in earlier blocks (44_encoder.md R199, R200). -/

namespace Sys2Proof.Machine

theorem range_eq_range_append_cons {i n : Nat} (h : i < n) :
    ∃ rest, List.range n = List.range i ++ i :: rest := by
  obtain ⟨k, rfl⟩ := Nat.exists_eq_add_of_lt h
  refine ⟨(List.range k).map (i + 1 + ·), ?_⟩
  rw [Nat.add_right_comm, List.range_add, List.range_succ, List.append_assoc]
  rfl

/-- What a filter keeps of element `b` stands after what it keeps of the elements before. -/
theorem filterMap_getElem?_of_some {α β : Type} {f : α → Option β} {l : List α} {b : Nat} {a : α} {y : β}
    (ha : l[b]? = some a) (hy : f a = some y) : (l.filterMap f)[((l.take b).filterMap f).length]? = some y := by
  obtain ⟨hb, rfl⟩ := List.getElem?_eq_some_iff.mp ha
  calc (l.filterMap f)[((l.take b).filterMap f).length]?
      = ((l.take b ++ l[b] :: l.drop (b + 1)).filterMap f)[((l.take b).filterMap f).length]? := by
        rw [← List.drop_eq_getElem_cons hb, List.take_append_drop]
    _ = some y := by
        rw [List.filterMap_append, List.filterMap_cons_some hy, List.getElem?_append_right le_rfl, Nat.sub_self,
          List.getElem?_cons_zero]

/-- The length of column `i`: the blocks that are not exhausted. -/
theorem column_length (blocks : List (List Byte)) (i : Nat) :
    (blocks.filterMap (·[i]?)).length = (blocks.filter fun d => decide (i < d.length)).length := by
  rw [List.length_filterMap_eq_countP, List.countP_eq_length_filter]
  exact congrArg List.length (List.filter_congr fun d _ => Bool.eq_iff_iff.mpr (by simp))

/-- Column by column, an element stands at its `columnPosition` (R200). -/
theorem columns_getElem? {blocks : List (List Byte)} {b i : Nat} {d : List Byte} {x : Byte} (hd : blocks[b]? = some d)
    (hx : d[i]? = some x) : (columns blocks)[columnPosition blocks b i]? = some x := by
  have hi : i < (blocks.map List.length).foldl max 0 :=
    (List.getElem?_eq_some_iff.mp hx).1.trans_le
      ((foldl_max_ge _ 0).2 _ (List.mem_map_of_mem (List.mem_of_getElem? hd)))
  obtain ⟨rest, hrange⟩ := range_eq_range_append_cons hi
  have hcolumn := filterMap_getElem?_of_some (f := (·[i]?)) hd hx
  rw [column_length] at hcolumn
  rw [columns, hrange, List.flatMap_append, List.flatMap_cons, columnPosition, ← sum_column_lengths,
    List.getElem?_append_right (Nat.le_add_right _ _), Nat.add_sub_cancel_left,
    List.getElem?_append_left (List.getElem?_eq_some_iff.mp hcolumn).1, hcolumn]

theorem exec_encIlv (s : State) :
    exec .encIlv s = runCommand Instr.encIlv.opcode (fun s => requireSymbol s <|
      require (s.rsValid = true) .sequenceError <| .ok (s.setCw (interleave s.dc s.ec))) s := rfl

/-- Settles O36: the columns of the data blocks, then those of the EC blocks. -/
theorem interleavedCodewords : Obligations.InterleavedCodewords := by
  refine fun s => ⟨wordIs_of_operandBits (i := .encIlv) rfl, fun hs hrs => ?_, exec_of_unconfigured exec_encIlv,
    fun hs hrs => ?_⟩
  · refine ⟨interleave s.dc s.ec, interleave_length _ _, fun b d i x hd hx => ?_, fun b e i x he hx => ?_,
      exec_of_configured_ok exec_encIlv hs (require_of_true hrs _ _)⟩
    · have hpos := columns_getElem? hd hx
      rw [interleave, List.getElem?_append_left (List.getElem?_eq_some_iff.mp hpos).1, hpos]
    · rw [interleave, ← columns_length, List.getElem?_append_right (Nat.le_add_right _ _), Nat.add_sub_cancel_left,
        columns_getElem? he hx]
  · exact exec_of_configured_error exec_encIlv hs (require_of_false (by simp [hrs]) .sequenceError _)

end Sys2Proof.Machine
end

section
/-! PROOFS. Reed-Solomon blocks: data codewords and the remainder of their shift are together a multiple of the
generator polynomial (44_encoder.md R182, R197, R198). -/

namespace Sys2Proof.Machine

/-! ### One block (R197) -/

/-- A leading 0 of a factor moves its products one place. -/
theorem productCoefficient_zero_cons (q b : List Byte) (k : Nat) :
    productCoefficient (0 :: q) b (k + 1) = productCoefficient q b k := by
  rw [productCoefficient_cons_succ, polynomialProduct_zero_left]
  exact BitVec.zero_xor

theorem paddedCoefficient_of_lt {n k : Nat} {r : List Byte} (h : k + r.length < n) : paddedCoefficient n r k = 0 :=
  if_neg h.not_ge

/-- Of the low-order coefficients it makes no difference how many zeros stand in front. -/
theorem paddedCoefficient_add {n m k : Nat} {r : List Byte} :
    paddedCoefficient (m + n) r (m + k) = paddedCoefficient n r k := by
  induction m with
  | zero => rw [Nat.zero_add, Nat.zero_add]
  | succ m ih => rw [Nat.add_right_comm m 1 n, Nat.add_right_comm m 1 k, paddedCoefficient_succ_succ, ih]

theorem paddedCoefficient_replicate_zero (n m k : Nat) : paddedCoefficient n (List.replicate m 0) k = 0 := by
  unfold paddedCoefficient
  split
  · exact getD_append_replicate_zero [] m _
  · rfl

/-- The division that codes a block: the data followed by `e` zeros is `q` times the generator polynomial and `r`, the
remainder of the model. -/
structure IsBlockDivision (e : Nat) (data q r : List Byte) : Prop where
  remainder : pmod (mkPoly data e) (gen e) = .ok r
  quotient_length : q.length = data.length
  remainder_length : r.length ≤ e
  coefficient : ∀ k < data.length + e,
    (data[k]?).getD 0 = productCoefficient q (rsGenerator e) k ^^^ paddedCoefficient (data.length + e) r k

/-- A dividend of zeros alone is shorter than the generator polynomial. -/
theorem isBlockDivision_nil (e : Nat) : IsBlockDivision e [] [] (List.replicate e 0) where
  remainder := pmod_of_length_lt (by simp [mkPoly, gen_eq_rsGenerator, rsGenerator_length])
  quotient_length := rfl
  remainder_length := List.length_replicate.le
  coefficient k _ := by
    rw [productCoefficient_nil, paddedCoefficient_replicate_zero]
    rfl

/-- A leading zero of the data is no coefficient of the dividend. -/
theorem IsBlockDivision.zero_cons {e : Nat} {data q r : List Byte} (h : IsBlockDivision e data q r) :
    IsBlockDivision e (0 :: data) (0 :: q) r where
  remainder := h.remainder
  quotient_length := congrArg Nat.succ h.quotient_length
  remainder_length := h.remainder_length
  coefficient k hk := by
    have hr := h.remainder_length
    rw [List.length_cons, Nat.add_right_comm] at hk ⊢
    cases k with
    | zero =>
      rw [productCoefficient_cons_zero, polynomialProduct_zero_left, paddedCoefficient_succ_zero (by omega)]
      rfl
    | succ k =>
      rw [productCoefficient_zero_cons, paddedCoefficient_succ_succ, List.getElem?_cons_succ,
        h.coefficient k (by omega)]

/-- Data whose first codeword is not 0 is divided as it stands. -/
theorem exists_isBlockDivision_cons {x : Byte} (hx : x ≠ 0) (data : List Byte) (e : Nat) :
    ∃ q r, IsBlockDivision e (x :: data) q r := by
  have hgen := rsGenerator_length e
  have hlen : (x :: data ++ List.replicate e 0).length = (x :: data).length + e := by
    rw [List.length_append, List.length_replicate]
  have hstripped : mkPoly (x :: data) e = x :: data ++ List.replicate e 0 := by
    rw [mkPoly, List.dropWhile_cons_of_neg (by simpa using hx)]
  obtain ⟨q, r, ⟨hq, hr, -, hcoef⟩, hpmod⟩ := pmod_isDivision (a := x :: data ++ List.replicate e 0)
    (e := rsGenerator e) (List.ne_nil_of_length_eq_add_one hgen) (by rw [hlen, hgen, List.length_cons]; omega)
    (by simpa using hx) (by simp [rsGenerator_head?])
  refine ⟨q, r, by rw [hstripped, gen_eq_rsGenerator, hpmod], by omega, by omega, fun k hk => ?_⟩
  rw [← getD_append_replicate_zero _ e, hcoef k (hk.trans_eq hlen.symm), hlen]

theorem exists_isBlockDivision (data : List Byte) (e : Nat) : ∃ q r, IsBlockDivision e data q r := by
  induction data with
  | nil => exact ⟨_, _, isBlockDivision_nil e⟩
  | cons x data ih =>
    by_cases hx : x = 0
    · obtain ⟨q, r, h⟩ := ih
      exact ⟨_, _, hx ▸ h.zero_cons⟩
    · exact exists_isBlockDivision_cons hx data e

/-- The codewords of a block: `d` data codewords from byte `offset` of the buffer on, and the EC codewords that make `t`
codewords a multiple of the generator polynomial (R197, R198). -/
structure IsCodeBlock (bb : List Bool) (offset d t : Nat) (data ec : List Byte) : Prop where
  data_length : data.length = d
  ec_length : ec.length = t - d
  data_codeword : ∀ i < d, data[i]? = some (byteAt bb (offset + i))
  multiple : ∃ q : List Byte, q.length = d ∧
    ∀ k < t, ((data ++ ec)[k]?).getD 0 = productCoefficient q (rsGenerator (t - d)) k

theorem rsBlock_of_pmod {data r : List Byte} {e : Nat} (h : pmod (mkPoly data e) (gen e) = .ok r) :
    rsBlock data e = .ok ((List.range e).map (paddedCoefficient e r)) := by
  rw [rsBlock, h]
  rfl

/-- The data followed by the remainder of its shift is the multiple of the generator polynomial that the division takes
off. -/
theorem exists_rsBlock (data : List Byte) (e : Nat) : ∃ ec q, rsBlock data e = .ok ec ∧ q.length = data.length ∧
    ∀ k < data.length + e, ((data ++ ec)[k]?).getD 0 = productCoefficient q (rsGenerator e) k := by
  obtain ⟨q, r, hr, hq, hre, hcoef⟩ := exists_isBlockDivision data e
  refine ⟨_, q, rsBlock_of_pmod hr, hq, fun k hk => ?_⟩
  have hk' := hcoef k hk
  by_cases hdata : k < data.length
  · rw [List.getElem?_append_left hdata, hk', paddedCoefficient_of_lt (by omega)]
    exact BitVec.xor_zero
  · obtain ⟨j, rfl⟩ := Nat.exists_eq_add_of_le (Nat.le_of_not_lt hdata)
    have hj : j < e := by omega
    rw [List.getElem?_eq_none (Nat.le_add_right _ _), paddedCoefficient_add] at hk'
    rw [List.getElem?_append_right (Nat.le_add_right _ _), Nat.add_sub_cancel_left, List.getElem?_map,
      List.getElem?_range hj]
    exact (BitVec.xor_eq_zero_iff.mp hk'.symm).symm

/-! ### The blocks of a plan (R198) -/

theorem codeBlocks_cons {bb : List Bool} {offset d t : Nat} {rest : List Block} {ec : List Byte}
    {ds es : List (List Byte)}
    (hec : rsBlock ((List.range d).map fun i => byteAt bb (offset + i)) (t - d) = .ok ec)
    (hrest : codeBlocks bb (offset + d) rest = .ok (ds, es)) :
    codeBlocks bb offset ((d, t) :: rest) =
      .ok (((List.range d).map fun i => byteAt bb (offset + i)) :: ds, ec :: es) := by
  rw [codeBlocks, hec]
  simp only [bind, Except.bind, hrest]

theorem exists_isCodeBlock (bb : List Bool) (offset d t : Nat) : ∃ ec,
    rsBlock ((List.range d).map fun i => byteAt bb (offset + i)) (t - d) = .ok ec ∧
      IsCodeBlock bb offset d t ((List.range d).map fun i => byteAt bb (offset + i)) ec := by
  generalize hdata : (List.range d).map (fun i => byteAt bb (offset + i)) = data
  have hlen : data.length = d := by simp [← hdata]
  obtain ⟨ec, q, hec, hq, hmultiple⟩ := exists_rsBlock data (t - d)
  exact ⟨ec, hec, hlen, rsBlock_length hec, fun i hi => by simp [← hdata, hi],
    q, hq.trans hlen, fun k hk => hmultiple k (by omega)⟩

/-- Coding never fails, and codes every block, its data after that of the blocks before it. -/
theorem exists_codeBlocks (bb : List Bool) (offset : Nat) (bs : List Block) : ∃ dc ec,
    codeBlocks bb offset bs = .ok (dc, ec) ∧ dc.length = bs.length ∧ ec.length = bs.length ∧
      ∀ b d t, bs[b]? = some (d, t) → ∃ D E, dc[b]? = some D ∧ ec[b]? = some E ∧
        IsCodeBlock bb (offset + ((bs.take b).map Prod.fst).sum) d t D E := by
  induction bs generalizing offset with
  | nil => exact ⟨[], [], rfl, rfl, rfl, fun _ _ _ h => by cases h⟩
  | cons block rest ih =>
    obtain ⟨d, t⟩ := block
    obtain ⟨E, hE, hblock⟩ := exists_isCodeBlock bb offset d t
    obtain ⟨ds, es, hrest, hds, hes, hblocks⟩ := ih (offset + d)
    refine ⟨_, _, codeBlocks_cons hE hrest, congrArg Nat.succ hds, congrArg Nat.succ hes, fun b d' t' hb => ?_⟩
    cases b with
    | zero =>
      cases hb
      exact ⟨_, _, rfl, rfl, hblock⟩
    | succ b =>
      obtain ⟨D', E', hD', hE', hblock'⟩ := hblocks b d' t' hb
      refine ⟨D', E', hD', hE', ?_⟩
      rwa [List.take_succ_cons, List.map_cons, List.sum_cons, ← Nat.add_assoc]

theorem exec_encRs (s : State) :
    exec .encRs s = runCommand Instr.encRs.opcode (fun s => requireSymbol s <|
      require (s.bb.length = 8 * totalDataCount s.version.toNat s.ecl) .sequenceError <|
        (codeBlocks s.bb 0 (plan s.version.toNat s.ecl)).map fun blocks => s.setBlocks blocks.1 blocks.2) s := rfl

/-- Settles O35: every block of the plan is coded. -/
theorem reedSolomonBlocks : Obligations.ReedSolomonBlocks := by
  refine fun s => ⟨wordIs_of_operandBits (i := .encRs) rfl, fun hs hfull => ?_, exec_of_unconfigured exec_encRs,
    fun hs hfull => exec_of_configured_error exec_encRs hs (require_of_false hfull .sequenceError _)⟩
  obtain ⟨dc, ec, hok, hdc, hec, hblocks⟩ := exists_codeBlocks s.bb 0 (plan s.version.toNat s.ecl)
  refine ⟨dc, ec, hdc, hec, fun b d t hb => ?_,
    exec_of_configured_ok exec_encRs hs ((require_of_true hfull _ _).trans ?_)⟩
  · obtain ⟨D, E, hD, hE, hlenD, hlenE, hdata, q, hq, hmultiple⟩ := hblocks b d t hb
    rw [Nat.zero_add] at hdata
    exact ⟨D, E, q, hD, hE, hlenD, hlenE, hq, hdata, hmultiple⟩
  · rw [hok]
    rfl

end Sys2Proof.Machine
end

section
/-! PROOFS. The block plan and the reads of the plan and of the codewords (44_encoder.md R201 to R206). -/

namespace Sys2Proof.Machine

/-! ### Even splits -/

section EvenPlan

variable {total ec blocks : Nat} (hblocks : 0 < blocks)
include hblocks

theorem evenPlan_length : (evenPlan total ec blocks).length = blocks := by
  rw [evenPlan, List.length_append, List.length_replicate, List.length_replicate,
    Nat.sub_add_cancel (Nat.mod_lt total hblocks).le]

theorem evenPlan_sum_total : ((evenPlan total ec blocks).map fun b => b.2).sum = total := by
  simp only [evenPlan, List.map_append, List.map_replicate, List.sum_append, List.sum_replicate, smul_eq_mul]
  calc (blocks - total % blocks) * (total / blocks) + total % blocks * (total / blocks + 1)
      = (blocks - total % blocks + total % blocks) * (total / blocks) + total % blocks := by ring
    _ = blocks * (total / blocks) + total % blocks := by rw [Nat.sub_add_cancel (Nat.mod_lt total hblocks).le]
    _ = total := Nat.div_add_mod total blocks

omit hblocks in
/-- A block of an even split has the rounded share of the codewords, or one more. -/
theorem eq_of_mem_evenPlan {b : Nat × Nat} (h : b ∈ evenPlan total ec blocks) :
    b = (total / blocks - ec, total / blocks) ∨ b = (total / blocks + 1 - ec, total / blocks + 1) :=
  (List.mem_append.mp h).imp List.eq_of_mem_replicate List.eq_of_mem_replicate

end EvenPlan

/-! ### The plan table (R201) -/

/-- The row of R201 for a version and level: its EC count and block count, and the plan they give. -/
structure IsPlanRow (v : Nat) (l : BitVec 2) (ec blocks : Nat) : Prop where
  columns : (planColumns[v - 1]?).bind (·[levelPlace l]?) = some (ec, blocks)
  plan_eq : plan v l = evenPlan (dataCells v / 8) ec blocks
  ec_pos : 0 < ec
  ec_lt : ec < dataCells v / 8 / blocks
  blocks_pos : 0 < blocks
  blocks_le : blocks ≤ 81

/-- The table, row by row. -/
theorem exists_isPlanRow {v : Nat} (hlo : 1 ≤ v) (hhi : v ≤ 40) (l : BitVec 2) :
    ∃ ec blocks, IsPlanRow v l ec blocks := by
  have table : ∀ k : Fin 40, ∀ l : BitVec 2, ∃ row ∈ (planColumns[k.val]?).bind (·[levelPlace l]?),
      plan (k.val + 1) l = evenPlan (dataCells (k.val + 1) / 8) row.1 row.2 ∧ 0 < row.1 ∧
        row.1 < dataCells (k.val + 1) / 8 / row.2 ∧ 0 < row.2 ∧ row.2 ≤ 81 := by
    decide +kernel
  obtain ⟨k, rfl⟩ : ∃ k, v = k + 1 := ⟨v - 1, by omega⟩
  obtain ⟨row, hrow, hplan, hpos, hlt, hblocks, hle⟩ := table ⟨k, by omega⟩ l
  exact ⟨row.1, row.2, hrow, hplan, hpos, hlt, hblocks, hle⟩

theorem IsPlanRow.totalCodewords_eq {v : Nat} {l : BitVec 2} {ec blocks : Nat} (h : IsPlanRow v l ec blocks) :
    totalCodewords v l = dataCells v / 8 := by
  rw [totalCodewords, h.plan_eq, evenPlan_sum_total h.blocks_pos]

/-- A block has at least one data codeword and the EC codewords of its row, and the data counts of a row are the rounded
share of a block, or one more. -/
theorem IsPlanRow.block {v : Nat} {l : BitVec 2} {ec blocks : Nat} (h : IsPlanRow v l ec blocks) {b : Block}
    (hb : b ∈ plan v l) : 0 < b.1 ∧ b.1 < b.2 ∧ b.2 - b.1 = ec ∧ dataCells v / 8 / blocks - ec ≤ b.1 ∧
      b.1 ≤ dataCells v / 8 / blocks - ec + 1 := by
  have hpos := h.ec_pos
  have hlt := h.ec_lt
  rw [h.plan_eq] at hb
  obtain rfl | rfl := eq_of_mem_evenPlan hb <;> omega

theorem IsPlanRow.planMeetsColumns {v : Nat} {l : BitVec 2} {ec blocks : Nat} (h : IsPlanRow v l ec blocks) :
    planMeetsColumns v l := by
  obtain ⟨rows, hrows, hrow⟩ := Option.bind_eq_some_iff.mp h.columns
  exact ⟨rows, ec, blocks, hrows, hrow, h.plan_eq⟩

/-- Below version 10 the 8-bit length field covers the capacity (R206). -/
theorem capacity_lt_of_le_nine {v : Nat} (hv : v ≤ 9) (l : BitVec 2) : 8 * totalDataCount v l < 12 + 8 * 256 := by
  have table : ∀ v : Fin 10, ∀ l : BitVec 2, 8 * totalDataCount v.val l < 12 + 8 * 256 := by decide +kernel
  exact table ⟨v, by omega⟩ l

/-- The derived checks follow from the even split. -/
theorem planMeetsChecks_of_version {v : Nat} (hlo : 1 ≤ v) (hhi : v ≤ 40) (l : BitVec 2) : planMeetsChecks v l := by
  have htotal : ∀ l' : BitVec 2, totalCodewords v l' = dataCells v / 8 := fun l' =>
    have ⟨_, _, hrow⟩ := exists_isPlanRow hlo hhi l'
    hrow.totalCodewords_eq
  obtain ⟨ec, blocks, hrow⟩ := exists_isPlanRow hlo hhi l
  refine ⟨fun l' => (htotal l').trans (htotal l).symm, htotal l, fun b hb => ?_, fun b hb b' hb' => ?_,
    fun hv => capacity_lt_of_le_nine hv l⟩
  · obtain ⟨hpos, hlt, -⟩ := hrow.block hb
    exact ⟨hpos, hlt⟩
  · obtain ⟨-, -, hec, -, hmax⟩ := hrow.block hb
    obtain ⟨-, -, hec', hmin, -⟩ := hrow.block hb'
    exact ⟨hec.trans hec'.symm, hmax.trans (Nat.succ_le_succ hmin)⟩

theorem planTable_length : planTable.length = 40 := by decide

/-- No version above 40 has a row. -/
theorem plan_eq_nil_of_gt {v : Nat} (hv : 40 < v) (l : BitVec 2) : plan v l = [] := by
  obtain ⟨k, rfl⟩ : ∃ k, v = k + 1 := ⟨v - 1, by omega⟩
  have hnone : planTable[k]? = none := List.getElem?_eq_none (planTable_length.trans_le (Nat.le_of_lt_succ hv))
  rw [plan, planRow, hnone, List.flatMap_nil]

theorem plan_block_le (v : Nat) (l : BitVec 2) : ∀ b ∈ plan v l, b.1 ≤ 123 ∧ b.2 ≤ 153 := by
  have table : ∀ v : Fin 41, ∀ l : BitVec 2, ∀ b ∈ plan v.val l, b.1 ≤ 123 ∧ b.2 ≤ 153 := by decide +kernel
  obtain hv | hv := Nat.lt_or_ge 40 v
  · rw [plan_eq_nil_of_gt hv]
    exact fun _ hb => absurd hb List.not_mem_nil
  · exact table ⟨v, Nat.lt_succ_of_le hv⟩ l

/-! ### The reads (R202 to R205) -/

theorem exec_cwGet_of_some {imm : Half} {s : State} {c : Byte} (he : s.err = 0) (hc : s.cw[imm.toNat]? = some c) :
    exec (.cwGet imm) s = .next { s with result := c.setWidth 32 } := by
  refine exec_of_rule_ok (fun _ => rfl) he
    ((require_of_true (List.getElem?_eq_some_iff.mp hc).1 _ _).trans ?_)
  rw [hc]
  rfl

theorem exec_planGet_of_some {imm : Half} {s : State} {d t : Nat} (hs : s.configured)
    (hb : (plan s.version.toNat s.ecl)[imm.toNat]? = some (d, t)) :
    exec (.planGet imm) s = .next { s with result := BitVec.ofNat 32 (t * 2 ^ 8 + d) } := by
  obtain ⟨hd, -⟩ := plan_block_le _ _ _ (List.mem_of_getElem? hb)
  have hword : t <<< 8 ||| d = t * 2 ^ 8 + d := by
    rw [← Nat.shiftLeft_add_eq_or_of_lt (by omega), Nat.shiftLeft_eq]
  refine exec_of_configured_ok (fun _ => rfl) hs ?_
  rw [hb, ← hword]
  rfl

theorem exec_planGet_of_none {imm : Half} {s : State} (hs : s.configured)
    (hb : (plan s.version.toNat s.ecl).length ≤ imm.toNat) :
    exec (.planGet imm) s = .next (s.failed 4 (.planGet imm)) := by
  refine exec_of_configured_error (e := .boundsViolation) (fun _ => rfl) hs ?_
  rw [List.getElem?_eq_none hb]

/-- Settles O37: each read is behind its checks, and the plan is an even split. -/
theorem codewordAndPlanReads : Obligations.CodewordAndPlanReads := by
  intro imm s
  refine ⟨wordIs_of_operandBits (i := .cwLen) rfl, wordIs_of_operandBits (Laws.bitsImm_toNat imm),
    wordIs_of_operandBits (i := .planCnt) rfl, wordIs_of_operandBits (Laws.bitsImm_toNat imm), fun he => ?_,
    fun c he hc => exec_cwGet_of_some he hc, fun he hlen => ?_, exec_of_unconfigured fun _ => rfl,
    exec_of_unconfigured fun _ => rfl, fun hs => ?_, fun d t hs hb => ?_, fun hs hlen => exec_planGet_of_none hs hlen,
    fun ⟨hlo, hhi⟩ => ?_, fun v l hlo hhi => ?_⟩
  · exact exec_of_rule_ok (body := fun s => .ok (s.setResult (zext32 s.cw.length))) (fun _ => rfl) he rfl
  · exact exec_of_failed_check (e := .boundsViolation) (fun _ => rfl) he hlen.not_gt
  · exact exec_of_configured_ok
      (k := fun s => .ok (s.setResult (zext32 (plan s.version.toNat s.ecl).length))) (fun _ => rfl) hs rfl
  · obtain ⟨hd, ht⟩ := plan_block_le _ _ _ (List.mem_of_getElem? hb)
    exact ⟨hd, ht, exec_planGet_of_some hs hb⟩
  · obtain ⟨ec, blocks, hrow⟩ := exists_isPlanRow hlo hhi s.ecl
    rw [hrow.plan_eq, evenPlan_length hrow.blocks_pos]
    exact ⟨hrow.blocks_pos, hrow.blocks_le⟩
  · obtain ⟨ec, blocks, hrow⟩ := exists_isPlanRow hlo hhi l
    exact ⟨hrow.planMeetsColumns, planMeetsChecks_of_version hlo hhi l⟩

end Sys2Proof.Machine
end

section
/-! PROOFS. The cells a construction step fills, the clear and the read of the matrix, and the timing and finder patterns
(45_matrix.md R231 to R234, R239, R240, R248). -/

namespace Sys2Proof.Machine

/-! ### Commands that write the matrix -/

theorem writeMat_eq (s : State) (m : Mat) : s.writeMat m = { s with mat := m, matValid := false } := rfl

/-- A command whose rule writes a matrix leaves it, clears `MAT_VALID` and changes nothing else (10_state.md R43). -/
theorem exec_of_writeMat {i : Instr} {s : State} {f : State → Mat}
    (hi : ∀ s, exec i s = runCommand i.opcode (fun s => requireSymbol s <| .ok (s.writeMat (f s))) s)
    (hs : s.configured) : exec i s = .next (s.writeMat (f s)) :=
  exec_of_configured_ok hi hs rfl

section MaskedWrite

variable {i : Instr} {s : State} {a : Byte} {f : State → Mat}
  (hi : ∀ s, exec i s = runCommand i.opcode (fun s => requireSymbol s <|
    require (isMaskId a = true) .invalidFieldOperand <| .ok (s.writeMat (f s))) s)
  (hs : s.configured)
include hi hs

/-- A command that names a mask checks it first (45_matrix.md R241, R245, R247). -/
theorem exec_of_writeMat_of_mask (ha : a.toNat ≤ 7) : exec i s = .next (s.writeMat (f s)) :=
  exec_of_configured_ok hi hs (require_of_true (decide_eq_true (Nat.lt_succ_of_le ha)) _ _)

theorem exec_of_bad_mask (ha : 7 < a.toNat) : exec i s = .next (s.failed 3 i) :=
  exec_of_configured_error (e := .invalidFieldOperand) hi hs
    (require_of_false (fun h => ha.not_ge (Nat.le_of_lt_succ (of_decide_eq_true h))) _ _)

end MaskedWrite

section Exec

variable {s : State} (hs : s.configured)
include hs

theorem exec_mxClr_of_configured : exec .mxClr s = .next (s.writeMat (clearMat s.n)) :=
  exec_of_writeMat (f := fun s => clearMat s.n) (fun _ => rfl) hs

theorem exec_mxFinder_of_configured : exec .mxFinder s = .next (s.writeMat (place s.mat (allFinderWrites s.n))) :=
  exec_of_writeMat (f := fun s => place s.mat (allFinderWrites s.n)) (fun _ => rfl) hs

theorem exec_mxAlign_of_configured : exec .mxAlign s = .next (s.writeMat (alignAll s.version.toNat s.mat)) :=
  exec_of_writeMat (f := fun s => alignAll s.version.toNat s.mat) (fun _ => rfl) hs

theorem exec_mxTiming_of_configured : exec .mxTiming s = .next (s.writeMat (place s.mat (timingWrites s.n))) :=
  exec_of_writeMat (f := fun s => place s.mat (timingWrites s.n)) (fun _ => rfl) hs

theorem exec_mxFormat_of_configured {a : Byte} (ha : a.toNat ≤ 7) (b : Byte) : exec (.mxFormat a b) s =
    .next (s.writeMat (place s.mat (formatWrites s.n s.ecl a.toNat (isTrial b)))) :=
  exec_of_writeMat_of_mask (f := fun s => place s.mat (formatWrites s.n s.ecl a.toNat (isTrial b))) (fun _ => rfl) hs ha

theorem exec_mxVersion_of_configured (b : Byte) : exec (.mxVersion b) s =
    .next (s.writeMat (place s.mat (versionWrites s.n s.version.toNat (isTrial b)))) :=
  exec_of_writeMat (f := fun s => place s.mat (versionWrites s.n s.version.toNat (isTrial b))) (fun _ => rfl) hs

theorem exec_mxData_of_configured {b : Byte} (hb : b.toNat ≤ 7) :
    exec (.mxData b) s = .next (s.writeMat (placeData s.n s.cw b.toNat s.mat)) :=
  exec_of_writeMat_of_mask (f := fun s => placeData s.n s.cw b.toNat s.mat) (fun _ => rfl) hs hb

theorem exec_mxBuild_of_configured {a : Byte} (ha : a.toNat ≤ 7) (b : Byte) : exec (.mxBuild a b) s =
    .next (s.writeMat (buildMatrix s.version.toNat s.ecl s.cw a.toNat (isTrial b))) :=
  exec_of_writeMat_of_mask (f := fun s => buildMatrix s.version.toNat s.ecl s.cw a.toNat (isTrial b)) (fun _ => rfl) hs ha

theorem exec_mxRd_of_lt {a b : Byte} (ha : a.toNat < s.n) (hb : b.toNat < s.n) :
    exec (.mxRd a b) s = .next (s.setResult (cellCode (getCell s.mat a.toNat b.toNat))) :=
  exec_of_configured_ok (fun _ => rfl) hs (require_of_true ⟨ha, hb⟩ _ _)

theorem exec_mxRd_of_ge {a b : Byte} (h : s.n ≤ a.toNat ∨ s.n ≤ b.toNat) :
    exec (.mxRd a b) s = .next (s.failed 4 (.mxRd a b)) :=
  exec_of_configured_error (e := .boundsViolation) (fun _ => rfl) hs (require_of_false (by omega) _ _)

end Exec

/-- Settles O38: one write of the matrix, and one read behind the check of its place. -/
theorem matrixClearAndRead : Obligations.MatrixClearAndRead := by
  refine fun a b s => ⟨wordIs_of_operandBits (i := .mxClr) rfl, wordIs_of_operandBits (Laws.bitsAB_toNat a b),
    exec_of_unconfigured fun _ => rfl, exec_of_unconfigured fun _ => rfl, exec_mxClr_of_configured,
    fun row cell hs ha hb hrow hcell => ?_, fun hs => exec_mxRd_of_ge hs⟩
  have hread : getCell s.mat a.toNat b.toNat = cell := by simp [getCell, hrow, hcell]
  rw [exec_mxRd_of_lt hs ha hb, hread]
  cases cell <;> rfl

/-! ### The cells a list of writes fills -/

theorem place_append (m : Mat) (ws ws' : List CellWrite) : place m (ws ++ ws') = place (place m ws) ws' :=
  List.foldl_append

theorem getCell_setu_ne (m : Mat) {r c r' c' : Nat} (hne : (r, c) ≠ (r', c')) (v : Cell) :
    getCell (setu m r c v) r' c' = getCell m r' c' := by
  unfold setu
  split
  · exact getCell_setCell_ne m hne v
  · rfl

/-- Writes of other cells leave a cell. -/
theorem getCell_place_of_ne {r c : Nat} {ws : List CellWrite} (h : ∀ w ∈ ws, (w.row, w.col) ≠ (r, c)) (m : Mat) :
    getCell (place m ws) r c = getCell m r c := by
  induction ws generalizing m with
  | nil => rfl
  | cons w ws ih =>
    obtain ⟨hw, hws⟩ := List.forall_mem_cons.mp h
    exact (ih hws _).trans (getCell_setu_ne m hw _)

/-- Writes that agree on the value of a cell leave it, or give it that value where it was unset. -/
theorem getCell_place_cases {n r c : Nat} (hr : r < n) (hc : c < n) {ws : List CellWrite} {v : Cell}
    (hws : ∀ w ∈ ws, (w.row, w.col) = (r, c) → w.cell = v) {m : Mat} (hm : squareMat n m) :
    getCell (place m ws) r c = getCell m r c ∨ getCell m r c = .unset ∧ getCell (place m ws) r c = v := by
  induction ws generalizing m with
  | nil => exact .inl rfl
  | cons w ws ih =>
    obtain ⟨hw, hws⟩ := List.forall_mem_cons.mp hws
    change getCell (place (setu m w.row w.col w.cell) ws) r c = _ ∨
      _ ∧ getCell (place (setu m w.row w.col w.cell) ws) r c = _
    have ih := ih hws (squareMat_setu hm w.row w.col w.cell)
    by_cases hat : (w.row, w.col) = (r, c)
    · obtain ⟨rfl, rfl⟩ := Prod.mk.inj hat
      rw [hw rfl] at ih ⊢
      rw [getCell_setu hm hr hc] at ih
      by_cases hu : getCell m w.row w.col = .unset
      · rw [if_pos ⟨rfl, hu⟩] at ih
        exact .inr ⟨hu, ih.elim id And.right⟩
      · rw [if_neg fun h => hu h.2] at ih
        exact ih
    · rwa [getCell_setu_ne m hat] at ih

/-- Writes that agree with `f`, and reach every cell `f` gives a value, fill the unset cells by `f` (45_matrix.md R231). -/
theorem fillsUnset_place {n : Nat} {m : Mat} (hm : squareMat n m) {ws : List CellWrite} {f : Nat → Nat → Cell}
    (hagree : ∀ w ∈ ws, w.row < n → w.col < n → w.cell = f w.row w.col)
    (hcover : ∀ r c, r < n → c < n → f r c ≠ .unset → ∃ w ∈ ws, (w.row, w.col) = (r, c)) :
    fillsUnset n m (place m ws) f := by
  obtain ⟨hlen, hrows⟩ := squareMat_place hm ws
  refine ⟨hlen, hrows, fun r c hr hc => ?_⟩
  have hcases := getCell_place_cases hr hc (ws := ws) (v := f r c)
    (fun w hw hat => by obtain ⟨rfl, rfl⟩ := Prod.mk.inj hat; exact hagree w hw hr hc) hm
  split
  · rename_i hu
    obtain hkept | ⟨-, hset⟩ := hcases
    · by_contra hne
      rw [hkept, hu] at hne
      obtain ⟨w, hw, hat⟩ := hcover r c hr hc fun h => hne h.symm
      obtain ⟨rfl, rfl⟩ := Prod.mk.inj hat
      exact place_fills hm hw hr hc (fun h => hne (h.symm.trans (hagree w hw hr hc))) (hkept.trans hu)
    · exact hset
  · rename_i hset
    exact hcases.resolve_right fun h => hset h.1

/-! ### Timing patterns (R239) -/

theorem mem_timingWrites {n : Nat} {w : CellWrite} :
    w ∈ timingWrites n ↔ (w.row < n ∧ w.col = 6 ∧ w.cell = shade (w.row % 2 == 0)) ∨
      (w.col < n ∧ w.row = 6 ∧ w.cell = shade (w.col % 2 == 0)) := by
  obtain ⟨row, col, cell⟩ := w
  simp only [timingWrites, List.mem_append, List.mem_map, List.mem_range, CellWrite.mk.injEq]
  constructor
  · rintro (⟨r, hr, rfl, rfl, rfl⟩ | ⟨c, hc, rfl, rfl, rfl⟩)
    · exact .inl ⟨hr, rfl, rfl⟩
    · exact .inr ⟨hc, rfl, rfl⟩
  · rintro (⟨hr, rfl, rfl⟩ | ⟨hc, rfl, rfl⟩)
    · exact .inl ⟨_, hr, rfl, rfl, rfl⟩
    · exact .inr ⟨_, hc, rfl, rfl, rfl⟩

/-- The two patterns cross at `(6, 6)`, where both are dark. -/
theorem fillsUnset_timing {n : Nat} {m : Mat} (hm : squareMat n m) :
    fillsUnset n m (place m (timingWrites n)) timingCell := by
  refine fillsUnset_place hm (fun w hw _ _ => ?_) fun r c hr hc hf => ?_
  · obtain ⟨-, hcol, hcell⟩ | ⟨-, hrow, hcell⟩ := mem_timingWrites.mp hw
    · rw [hcell, timingCell, if_pos hcol]
    · rw [hcell, timingCell]
      split
      · rename_i hcol
        rw [hrow, hcol]
      · rfl
  · refine ⟨⟨r, c, timingCell r c⟩, mem_timingWrites.mpr ?_, rfl⟩
    unfold timingCell at hf ⊢
    split_ifs at hf ⊢ with hcol hrow
    · exact .inl ⟨hr, hcol, rfl⟩
    · exact .inr ⟨hc, hrow, rfl⟩
    · exact absurd rfl hf

/-- Settles O41, by the cells its writes fill. -/
theorem timingPatterns : Obligations.TimingPatterns := fun _ =>
  ⟨wordIs_of_operandBits (i := .mxTiming) rfl, exec_of_unconfigured fun _ => rfl,
    fun hs hm => ⟨_, fillsUnset_timing hm, exec_mxTiming_of_configured hs⟩⟩

/-! ### Finder patterns (R233, R234) -/

theorem mem_intRange {lo x : Int} {count : Nat} : x ∈ intRange lo count ↔ lo ≤ x ∧ x < lo + count := by
  simp only [intRange, List.mem_map, List.pure_def, List.bind_eq_flatMap, List.mem_flatMap, List.mem_range,
    List.mem_singleton]
  constructor
  · rintro ⟨_, ⟨k, hk, rfl⟩, rfl⟩
    omega
  · rintro ⟨hlo, hhi⟩
    exact ⟨_, ⟨(x - lo).toNat, by omega, rfl⟩, by omega⟩

/-- The colour of a ring about the centre of a finder: 0, 1 and 3 are dark, 2 and 4 light (R233). -/
def finderShade (ring : Nat) : Cell := shade (ring != 2 && ring != 4)

/-- The pattern of R233 is the rings 0, 1 and 3 about its centre, three cells from its corner. -/
theorem shade_finderDark {r c : Int} {R C row col : Nat} (hr : (R : Int) + r = row) (hc : (C : Int) + c = col)
    (hring : ringOf row col (R + 3) (C + 3) ≤ 4) :
    shade (finderDark r c) = finderShade (ringOf row col (R + 3) (C + 3)) := by
  refine congrArg shade (Bool.eq_iff_iff.mpr ?_)
  unfold ringOf at hring ⊢
  simp only [finderDark, Bool.or_eq_true, Bool.and_eq_true, decide_eq_true_eq, beq_iff_eq, bne_iff_ne]
  omega

/-- The writes of one finder are the cells of the matrix within ring 4. -/
theorem mem_finderWrites {n R C : Nat} {w : CellWrite} :
    w ∈ finderWrites n R C ↔ w.row < n ∧ w.col < n ∧ ringOf w.row w.col (R + 3) (C + 3) ≤ 4 ∧
      w.cell = finderShade (ringOf w.row w.col (R + 3) (C + 3)) := by
  obtain ⟨row, col, cell⟩ := w
  simp only [finderWrites, List.mem_flatMap, List.mem_filterMap, mem_intRange, Option.ite_none_right_eq_some,
    Option.some.injEq, CellWrite.mk.injEq]
  constructor
  · rintro ⟨r, hr, c, hc, hin, hrow, hcol, rfl⟩
    have hring : ringOf row col (R + 3) (C + 3) ≤ 4 := by unfold ringOf; omega
    exact ⟨by omega, by omega, hring, shade_finderDark (by omega) (by omega) hring⟩
  · rintro ⟨hrow, hcol, hring, rfl⟩
    have hring' := hring
    unfold ringOf at hring'
    exact ⟨row - R, by omega, col - C, by omega, by omega, by omega, by omega,
      shade_finderDark (by omega) (by omega) hring⟩

/-- The centres of the three finders (R234). -/
def finderCentres (n : Nat) : List (Nat × Nat) := [(3, 3), (n - 4, 3), (3, n - 4)]

theorem mem_allFinderWrites {n : Nat} (hn : 7 ≤ n) {w : CellWrite} :
    w ∈ allFinderWrites n ↔ w.row < n ∧ w.col < n ∧ ∃ p ∈ finderCentres n, ringOf w.row w.col p.1 p.2 ≤ 4 ∧
      w.cell = finderShade (ringOf w.row w.col p.1 p.2) := by
  have hcentre : n - 7 + 3 = n - 4 := by omega
  simp only [allFinderWrites, List.mem_append, mem_finderWrites, finderCentres, List.mem_cons, List.not_mem_nil, or_false,
    exists_eq_or_imp, exists_eq_left, hcentre, ← and_or_left, or_assoc]

/-- The first element of a list that meets a predicate, when no other does. -/
theorem find?_eq_some_of_unique {α : Type} {l : List α} {P : α → Bool} {a : α} (ha : a ∈ l) (hP : P a = true)
    (huniq : ∀ b ∈ l, P b = true → b = a) : l.find? P = some a := by
  obtain ⟨b, hb⟩ := Option.isSome_iff_exists.mp (List.find?_isSome.mpr ⟨a, ha, hP⟩)
  rw [hb, huniq b (List.mem_of_find?_eq_some hb) (List.find?_some hb)]

/-- In a matrix wide enough the three finders do not meet. -/
theorem finderCentres_unique {n r c : Nat} (hn : 16 ≤ n) {p q : Nat × Nat} (hp : p ∈ finderCentres n)
    (hq : q ∈ finderCentres n) (hpr : ringOf r c p.1 p.2 ≤ 4) (hqr : ringOf r c q.1 q.2 ≤ 4) : q = p := by
  unfold ringOf at hpr hqr
  obtain ⟨p₁, p₂⟩ := p
  obtain ⟨q₁, q₂⟩ := q
  simp only [finderCentres, List.mem_cons, List.not_mem_nil, or_false, Prod.mk.injEq] at hp hq ⊢
  omega

theorem finderCell_of_ring {n r c : Nat} (hn : 16 ≤ n) {p : Nat × Nat} (hp : p ∈ finderCentres n)
    (hring : ringOf r c p.1 p.2 ≤ 4) :
    finderCell n r c = finderShade (ringOf r c p.1 p.2) := by
  have hfind : (finderCentres n).find? (fun q => decide (ringOf r c q.1 q.2 ≤ 4)) = some p :=
    find?_eq_some_of_unique hp (decide_eq_true hring) fun q hq hqring =>
      finderCentres_unique hn hp hq hring (of_decide_eq_true hqring)
  simp only [finderCentres] at hfind
  simp only [finderCell, hfind, finderShade]

theorem finderCell_of_no_ring {n r c : Nat} (h : ∀ p ∈ finderCentres n, ¬ ringOf r c p.1 p.2 ≤ 4) :
    finderCell n r c = .unset := by
  have hfind : (finderCentres n).find? (fun q => decide (ringOf r c q.1 q.2 ≤ 4)) = none :=
    List.find?_eq_none.mpr fun p hp => by simpa using h p hp
  simp only [finderCentres] at hfind
  simp only [finderCell, hfind]

theorem fillsUnset_finder {n : Nat} (hn : 16 ≤ n) {m : Mat} (hm : squareMat n m) :
    fillsUnset n m (place m (allFinderWrites n)) (finderCell n) := by
  refine fillsUnset_place hm (fun w hw _ _ => ?_) fun r c hr hc hf => ?_
  · obtain ⟨-, -, p, hp, hring, hcell⟩ := (mem_allFinderWrites (by omega)).mp hw
    rw [hcell, finderCell_of_ring hn hp hring]
  · obtain ⟨p, hp, hring⟩ : ∃ p ∈ finderCentres n, ringOf r c p.1 p.2 ≤ 4 := by
      by_contra hnone
      exact hf (finderCell_of_no_ring fun p hp hring => hnone ⟨p, hp, hring⟩)
    exact ⟨⟨r, c, finderShade (ringOf r c p.1 p.2)⟩,
      (mem_allFinderWrites (by omega)).mpr ⟨hr, hc, p, hp, hring, rfl⟩, rfl⟩

/-- A configured symbol has at least 17 modules a side (10_state.md R35). -/
theorem n_ge_of_configured {s : State} (hs : s.configured) : 17 ≤ s.n := by
  rw [n_of_cfgValid hs.2]
  exact Nat.le_add_left _ _

theorem n_ge_of_hasVersion {s : State} (hs : s.configured) (hv : s.hasVersion) : 21 ≤ s.n := by
  have := hv.1
  rw [n_of_cfgValid hs.2]
  omega

/-- Settles O39, by the cells its writes fill: the matrix is wide enough to keep the finders apart. -/
theorem finderPatterns : Obligations.FinderPatterns := fun _ =>
  ⟨wordIs_of_operandBits (i := .mxFinder) rfl, exec_of_unconfigured fun _ => rfl,
    fun hs _ hm => ⟨_, fillsUnset_finder ((Nat.le_succ 16).trans (n_ge_of_configured hs)) hm, exec_mxFinder_of_configured hs⟩⟩

end Sys2Proof.Machine
end

section
/-! PROOFS. The alignment patterns: the centres lie so far apart that no pattern reaches another's cells, so the writes are
those about the centres that were unset at first (45_matrix.md R236 to R238). -/

namespace Sys2Proof.Machine

/-! ### One pattern (R236) -/

/-- The colour of a ring about the centre of an alignment pattern: 0 and 2 are dark, 1 light (R236). -/
def alignShade (ring : Nat) : Cell := shade (ring != 1)

theorem shade_alignDark {r c : Int} {R C row col : Nat} (hr : (R : Int) + r = row) (hc : (C : Int) + c = col)
    (hring : ringOf row col R C ≤ 2) : shade (alignDark r c) = alignShade (ringOf row col R C) := by
  refine congrArg shade (Bool.eq_iff_iff.mpr ?_)
  unfold ringOf at hring ⊢
  simp only [alignDark, Bool.or_eq_true, Bool.and_eq_true, beq_iff_eq, bne_iff_ne]
  omega

/-- The writes of a pattern inside the matrix are its cells within ring 2. -/
theorem mem_alignWrites {R C : Nat} (hR : 2 ≤ R) (hC : 2 ≤ C) {w : CellWrite} :
    w ∈ alignWrites R C ↔ ringOf w.row w.col R C ≤ 2 ∧ w.cell = alignShade (ringOf w.row w.col R C) := by
  obtain ⟨row, col, cell⟩ := w
  simp only [alignWrites, List.mem_flatMap, List.mem_map, mem_intRange, CellWrite.mk.injEq]
  constructor
  · rintro ⟨r, hr, c, hc, hrow, hcol, rfl⟩
    have hring : ringOf row col R C ≤ 2 := by unfold ringOf; omega
    exact ⟨hring, shade_alignDark (by omega) (by omega) hring⟩
  · rintro ⟨hring, rfl⟩
    have hring' := hring
    unfold ringOf at hring'
    exact ⟨row - R, by omega, col - C, by omega, by omega, by omega, shade_alignDark (by omega) (by omega) hring⟩

/-! ### All patterns (R237) -/

/-- The pairs of a version's coordinates, in the order of R237. -/
def alignCentres (v : Nat) : List (Nat × Nat) := (alignPos v).flatMap fun r => (alignPos v).map fun c => (r, c)

/-- Two patterns about these centres share no cell. -/
def alignApart (p q : Nat × Nat) : Prop := 4 < ringOf p.1 p.2 q.1 q.2

/-- The coordinates of a version are more than 4 apart, and the first is past the edge (R238). -/
theorem alignPos_spaced {v : Nat} (hv : v ≤ 40) :
    (alignPos v).Pairwise (fun a b => a + 4 < b) ∧ ∀ a ∈ alignPos v, 2 ≤ a := by
  have table : ∀ v : Fin 41, (alignPos v).Pairwise (fun a b => a + 4 < b) ∧ ∀ a ∈ alignPos v, 2 ≤ a := by decide
  exact table ⟨v, Nat.lt_succ_of_le hv⟩

theorem mem_alignCentres {v : Nat} {p : Nat × Nat} : p ∈ alignCentres v ↔ p.1 ∈ alignPos v ∧ p.2 ∈ alignPos v := by
  obtain ⟨r, c⟩ := p
  simp [alignCentres]

theorem alignCentres_apart {v : Nat} (hv : v ≤ 40) : (alignCentres v).Pairwise alignApart := by
  obtain ⟨hspaced, -⟩ := alignPos_spaced hv
  refine List.pairwise_flatMap.mpr ⟨fun r _ => List.pairwise_map.mpr (hspaced.imp fun {a b} hab => ?_),
    hspaced.imp fun {a b} hab p hp q hq => ?_⟩
  · unfold alignApart ringOf
    omega
  · obtain ⟨-, -, rfl⟩ := List.mem_map.mp hp
    obtain ⟨-, -, rfl⟩ := List.mem_map.mp hq
    unfold alignApart ringOf
    omega

/-- The writes about the centres that are unset in `m`. -/
def alignWritesAbout (m : Mat) (ps : List (Nat × Nat)) : List CellWrite :=
  (ps.filter fun p => getCell m p.1 p.2 = .unset).flatMap fun p => alignWrites p.1 p.2

theorem alignWritesAbout_cons (m : Mat) (p : Nat × Nat) (ps : List (Nat × Nat)) : alignWritesAbout m (p :: ps) =
    (if getCell m p.1 p.2 = .unset then alignWrites p.1 p.2 else []) ++ alignWritesAbout m ps := by
  unfold alignWritesAbout
  split <;> simp [*]

theorem alignAt_eq_place (m : Mat) (p : Nat × Nat) :
    alignAt m p = place m (if getCell m p.1 p.2 = .unset then alignWrites p.1 p.2 else []) := by
  unfold alignAt
  split <;> rfl

/-- A pattern leaves every centre apart from its own. -/
theorem getCell_alignAt_of_apart {p q : Nat × Nat} (hp : 2 ≤ p.1 ∧ 2 ≤ p.2) (h : alignApart p q) (m : Mat) :
    getCell (alignAt m p) q.1 q.2 = getCell m q.1 q.2 := by
  unfold alignAt
  split
  · refine getCell_place_of_ne (fun w hw hat => ?_) m
    obtain ⟨hring, -⟩ := (mem_alignWrites hp.1 hp.2).mp hw
    obtain ⟨hrow, hcol⟩ := Prod.mk.inj hat
    rw [hrow, hcol] at hring
    unfold alignApart at h
    unfold ringOf at h hring
    omega
  · rfl

/-- Whether a centre is unset when its turn comes is whether it was at first. -/
theorem foldl_alignAt {ps : List (Nat × Nat)} (hin : ∀ p ∈ ps, 2 ≤ p.1 ∧ 2 ≤ p.2) (hapart : ps.Pairwise alignApart)
    (m : Mat) : ps.foldl alignAt m = place m (alignWritesAbout m ps) := by
  induction ps generalizing m with
  | nil => rfl
  | cons p ps ih =>
    obtain ⟨hp, hin⟩ := List.forall_mem_cons.mp hin
    obtain ⟨hpq, hapart⟩ := List.pairwise_cons.mp hapart
    have hsame : alignWritesAbout (alignAt m p) ps = alignWritesAbout m ps := by
      unfold alignWritesAbout
      rw [List.filter_congr fun q hq => by rw [getCell_alignAt_of_apart hp (hpq q hq)]]
    rw [List.foldl_cons, ih hin hapart, hsame, alignWritesAbout_cons, place_append, ← alignAt_eq_place]

theorem mem_alignWritesAbout {v : Nat} (hv : v ≤ 40) {m : Mat} {w : CellWrite} :
    w ∈ alignWritesAbout m (alignCentres v) ↔ ∃ p ∈ alignCentres v, getCell m p.1 p.2 = .unset ∧
      ringOf w.row w.col p.1 p.2 ≤ 2 ∧ w.cell = alignShade (ringOf w.row w.col p.1 p.2) := by
  obtain ⟨-, hge⟩ := alignPos_spaced hv
  simp only [alignWritesAbout, List.mem_flatMap, List.mem_filter, decide_eq_true_eq, and_assoc]
  refine exists_congr fun p => and_congr_right fun hp => and_congr_right fun _ => ?_
  obtain ⟨hr, hc⟩ := mem_alignCentres.mp hp
  exact mem_alignWrites (hge _ hr) (hge _ hc)

/-- A cell is within ring 2 of one centre at most. -/
theorem alignCentres_unique {v r c : Nat} (hv : v ≤ 40) {p q : Nat × Nat} (hp : p ∈ alignCentres v)
    (hq : q ∈ alignCentres v) (hpr : ringOf r c p.1 p.2 ≤ 2) (hqr : ringOf r c q.1 q.2 ≤ 2) : q = p := by
  by_contra hne
  have : Std.Symm alignApart := ⟨fun p q h => by unfold alignApart ringOf at *; omega⟩
  have hapart := (alignCentres_apart hv).forall hq hp hne
  unfold alignApart at hapart
  unfold ringOf at hapart hpr hqr
  omega

theorem alignCell_of_ring {v r c : Nat} (hv : v ≤ 40) {m : Mat} {p : Nat × Nat} (hp : p ∈ alignCentres v)
    (hu : getCell m p.1 p.2 = .unset) (hring : ringOf r c p.1 p.2 ≤ 2) :
    alignCell v m r c = alignShade (ringOf r c p.1 p.2) := by
  have hfind : (alignCentres v).find? (fun q => decide (getCell m q.1 q.2 = .unset ∧ ringOf r c q.1 q.2 ≤ 2)) = some p :=
    find?_eq_some_of_unique hp (decide_eq_true ⟨hu, hring⟩) fun q hq hqring =>
      alignCentres_unique hv hp hq hring (of_decide_eq_true hqring).2
  unfold alignCentres at hfind
  simp only [alignCell, hfind, alignShade]

theorem alignCell_of_no_ring {v r c : Nat} {m : Mat}
    (h : ∀ p ∈ alignCentres v, getCell m p.1 p.2 = .unset → ¬ ringOf r c p.1 p.2 ≤ 2) : alignCell v m r c = .unset := by
  have hfind : (alignCentres v).find? (fun q => decide (getCell m q.1 q.2 = .unset ∧ ringOf r c q.1 q.2 ≤ 2)) = none :=
    List.find?_eq_none.mpr fun p hp => by simpa using h p hp
  unfold alignCentres at hfind
  simp only [alignCell, hfind]

theorem fillsUnset_align {n v : Nat} (hv : v ≤ 40) {m : Mat} (hm : squareMat n m) :
    fillsUnset n m (alignAll v m) (alignCell v m) := by
  obtain ⟨-, hge⟩ := alignPos_spaced hv
  have hplace : alignAll v m = place m (alignWritesAbout m (alignCentres v)) :=
    foldl_alignAt (fun p hp => (mem_alignCentres.mp hp).imp (hge _) (hge _)) (alignCentres_apart hv) m
  rw [hplace]
  refine fillsUnset_place hm (fun w hw _ _ => ?_) fun r c _ _ hf => ?_
  · obtain ⟨p, hp, hu, hring, hcell⟩ := (mem_alignWritesAbout hv).mp hw
    rw [hcell, alignCell_of_ring hv hp hu hring]
  · obtain ⟨p, hp, hu, hring⟩ : ∃ p ∈ alignCentres v, getCell m p.1 p.2 = .unset ∧ ringOf r c p.1 p.2 ≤ 2 := by
      by_contra hnone
      exact hf (alignCell_of_no_ring fun p hp hu hring => hnone ⟨p, hp, hu, hring⟩)
    exact ⟨⟨r, c, alignShade (ringOf r c p.1 p.2)⟩, (mem_alignWritesAbout hv).mpr ⟨p, hp, hu, hring, rfl⟩, rfl⟩

/-- The derived facts of R238, row by row of the table. -/
theorem alignMeetsFacts_of_version {v : Nat} (hlo : 1 ≤ v) (hhi : v ≤ 40) : alignMeetsFacts v := by
  have table : ∀ k : Fin 40, alignMeetsFacts (k.val + 1) := by decide +kernel
  obtain ⟨k, rfl⟩ := Nat.exists_eq_add_of_le' hlo
  exact table ⟨k, by omega⟩

/-- Settles O40, by the cells the writes about the unset centres fill, and the table. -/
theorem alignmentPatterns : Obligations.AlignmentPatterns := fun _ =>
  ⟨wordIs_of_operandBits (i := .mxAlign) rfl, exec_of_unconfigured fun _ => rfl,
    fun hs hv hm => ⟨_, fillsUnset_align hv.2 hm, exec_mxAlign_of_configured hs⟩,
    fun _ => alignMeetsFacts_of_version⟩

end Sys2Proof.Machine
end

section
/-! PROOFS. The format and the version information: the cells of each bit (45_matrix.md R241 to R244). -/

namespace Sys2Proof.Machine

/-! ### Format information (R241, R242) -/

/-- The table of R242, read from the bit to its two cells and from the cell to its bit. -/
theorem formatBitOf_eq_some_iff {n r c i : Nat} (hn : 21 ≤ n) (hr : r < n) (hc : c < n) :
    formatBitOf n r c = some i ↔ i < 15 ∧ (vpos n i = (r, c) ∨ hpos n i = (r, c)) := by
  unfold formatBitOf vpos hpos
  split_ifs <;> simp only [Option.some.injEq, Prod.mk.injEq, false_iff] <;> omega

/-- The word of R241: 15 zeros in a trial. -/
def formatWord (ecl : BitVec 2) (m : Nat) (trial : Bool) : Nat :=
  if trial then 0 else bchFormat (ecl.toNat * 2 ^ 3 + m)

theorem testBit_formatWord {ecl : BitVec 2} {m : Nat} (hm : m ≤ 7) (trial : Bool) (i : Nat) :
    (formatWord ecl m trial).testBit i = (!trial && (bchFormat ((ecl.toNat <<< 3) ||| m)).testBit i) := by
  have hword : ecl.toNat <<< 3 ||| m = ecl.toNat * 2 ^ 3 + m := by
    rw [← Nat.shiftLeft_add_eq_or_of_lt (by omega), Nat.shiftLeft_eq]
  cases trial <;> simp [formatWord, hword]

/-- The writes are both copies of the bits and the dark module. -/
theorem mem_formatWrites {n m : Nat} {ecl : BitVec 2} (hm : m ≤ 7) {trial : Bool} {w : CellWrite} :
    w ∈ formatWrites n ecl m trial ↔
      (∃ i < 15, (vpos n i = (w.row, w.col) ∨ hpos n i = (w.row, w.col)) ∧
        w.cell = shade ((formatWord ecl m trial).testBit i)) ∨
      w = ⟨n - 8, 8, .dark⟩ := by
  obtain ⟨row, col, cell⟩ := w
  have hdark : (if trial = true then trialDarkCell else Cell.dark) = .dark := ite_self _
  simp only [formatWrites, List.mem_append, List.mem_map, List.mem_range, List.mem_singleton, hdark, Prod.ext_iff,
    CellWrite.mk.injEq, testBit_formatWord hm]
  constructor
  · rintro ((⟨i, hi, hr, hc, rfl⟩ | ⟨i, hi, hr, hc, rfl⟩) | h)
    · exact .inl ⟨i, hi, .inl ⟨hr, hc⟩, rfl⟩
    · exact .inl ⟨i, hi, .inr ⟨hr, hc⟩, rfl⟩
    · exact .inr h
  · rintro (⟨i, hi, ⟨hr, hc⟩ | ⟨hr, hc⟩, rfl⟩ | h)
    · exact .inl (.inl ⟨i, hi, hr, hc, rfl⟩)
    · exact .inl (.inr ⟨i, hi, hr, hc, rfl⟩)
    · exact .inr h

/-- The dark module carries no bit. -/
theorem formatBitOf_dark_module {n : Nat} (hn : 21 ≤ n) : formatBitOf n (n - 8) 8 = none := by
  rw [formatBitOf, if_pos rfl, if_neg (by omega), if_neg (by omega), if_neg (by omega), if_neg (by omega),
    if_neg (by omega)]

theorem formatCell_of_bit {n word r c i : Nat} (hn : 21 ≤ n) (h : formatBitOf n r c = some i) :
    formatCell n word r c = shade (word.testBit i) := by
  rw [formatCell, if_neg, h]
  rintro ⟨hr, rfl⟩
  obtain rfl : r = n - 8 := by omega
  rw [formatBitOf_dark_module hn] at h
  cases h

theorem fillsUnset_format {n k : Nat} (hn : 21 ≤ n) (ecl : BitVec 2) (hk : k ≤ 7) (trial : Bool) {m : Mat}
    (hm : squareMat n m) :
    fillsUnset n m (place m (formatWrites n ecl k trial)) (formatCell n (formatWord ecl k trial)) := by
  refine fillsUnset_place hm (fun w hw hr hc => ?_) fun r c hr hc hf => ?_
  · obtain ⟨i, hi, hpos, hcell⟩ | rfl := (mem_formatWrites hk).mp hw
    · rw [hcell, formatCell_of_bit hn ((formatBitOf_eq_some_iff hn hr hc).mpr ⟨hi, hpos⟩)]
    · exact (if_pos ⟨Nat.sub_add_cancel (by omega), rfl⟩).symm
  · by_cases hdark : r + 8 = n ∧ c = 8
    · obtain ⟨hr8, rfl⟩ := hdark
      exact ⟨_, (mem_formatWrites hk).mpr (.inr rfl), by rw [← hr8, Nat.add_sub_cancel]⟩
    · cases hbit : formatBitOf n r c with
      | none => rw [formatCell, if_neg hdark, hbit] at hf; exact absurd rfl hf
      | some i =>
        obtain ⟨hi, hpos⟩ := (formatBitOf_eq_some_iff hn hr hc).mp hbit
        exact ⟨⟨r, c, shade _⟩, (mem_formatWrites hk).mpr (.inl ⟨i, hi, hpos, rfl⟩), rfl⟩

/-- Settles O42, by the cells its writes fill and the check of the mask. -/
theorem formatInformation : Obligations.FormatInformation := by
  refine fun a b s => ⟨wordIs_of_operandBits (Laws.bitsAB_toNat a b), fun hs _ => exec_of_unconfigured (fun _ => rfl) hs,
    fun hb => decode_encode_of_not_wellFormed (decide_eq_false hb.not_ge), fun hs hv hm ha _ => ?_,
    fun hs ha _ => exec_of_bad_mask (fun _ => rfl) hs ha⟩
  have hword : (if b = 1 then 0 else bchFormat (s.ecl.toNat * 2 ^ 3 + a.toNat)) = formatWord s.ecl a.toNat (isTrial b) :=
    if_congr beq_iff_eq.symm rfl rfl
  rw [hword]
  exact ⟨_, fillsUnset_format (n_ge_of_hasVersion hs hv) s.ecl ha (isTrial b) hm,
    by rw [exec_mxFormat_of_configured hs ha b, writeMat_eq]⟩

/-! ### Version information (R243, R244) -/

theorem versionWrites_of_lt {v : Nat} (hv : v < 7) (n : Nat) (trial : Bool) : versionWrites n v trial = [] :=
  if_neg hv.not_ge

/-- The writes are the bits at their place in the block and in its mirror image, in a trial too. -/
theorem mem_versionWrites {n v : Nat} (hv : 7 ≤ v) {trial : Bool} {w : CellWrite} :
    w ∈ versionWrites n v trial ↔ ∃ i < 18, w.cell = shade ((bchVersion v).testBit i) ∧
      (w.row = i / 3 ∧ w.col = n - 11 + i % 3 ∨ w.row = n - 11 + i % 3 ∧ w.col = i / 3) := by
  obtain ⟨row, col, cell⟩ := w
  have hbit (i : Nat) : (!(trial && trialVersionForced) && (bchVersion v).testBit i) = (bchVersion v).testBit i := by
    simp [trialVersionForced, Config.trialVersionBits]
  simp only [versionWrites, if_pos hv, List.mem_append, List.mem_map, List.mem_range, CellWrite.mk.injEq, hbit]
  constructor
  · rintro (⟨i, hi, rfl, rfl, rfl⟩ | ⟨i, hi, rfl, rfl, rfl⟩)
    · exact ⟨i, hi, rfl, .inl ⟨rfl, rfl⟩⟩
    · exact ⟨i, hi, rfl, .inr ⟨rfl, rfl⟩⟩
  · rintro ⟨i, hi, rfl, ⟨rfl, rfl⟩ | ⟨rfl, rfl⟩⟩
    · exact .inl ⟨i, hi, rfl, rfl, rfl⟩
    · exact .inr ⟨i, hi, rfl, rfl, rfl⟩

theorem fillsUnset_version {n v : Nat} (hn : 17 ≤ n) (hv : 7 ≤ v) (trial : Bool) {m : Mat} (hm : squareMat n m) :
    fillsUnset n m (place m (versionWrites n v trial)) (versionCell n (bchVersion v)) := by
  refine fillsUnset_place hm (fun w hw _ _ => ?_) fun r c hr hc hf => ?_
  · obtain ⟨i, hi, hcell, ⟨hrow, hcol⟩ | ⟨hrow, hcol⟩⟩ := (mem_versionWrites hv).mp hw
    · rw [hcell, versionCell, if_pos (by omega), show 3 * w.row + (w.col + 11 - n) = i by omega]
    · rw [hcell, versionCell, if_neg (by omega), if_pos (by omega), show 3 * w.col + (w.row + 11 - n) = i by omega]
  · suffices h : ∃ i < 18, r = i / 3 ∧ c = n - 11 + i % 3 ∨ r = n - 11 + i % 3 ∧ c = i / 3 by
      obtain ⟨i, hi, hpos⟩ := h
      exact ⟨⟨r, c, shade _⟩, (mem_versionWrites hv).mpr ⟨i, hi, rfl, hpos⟩, rfl⟩
    unfold versionCell at hf
    split_ifs at hf with hblock hmirror
    · exact ⟨3 * r + (c + 11 - n), by omega, .inl ⟨by omega, by omega⟩⟩
    · exact ⟨3 * c + (r + 11 - n), by omega, .inr ⟨by omega, by omega⟩⟩
    · exact absurd rfl hf

/-- Settles O43: the writes of a version below 7 are none, those from version 7 on fill the two blocks. -/
theorem versionInformation : Obligations.VersionInformation := by
  refine fun b s => ⟨wordIs_of_operandBits (Laws.bitsB_toNat b), fun hs _ => exec_of_unconfigured (fun _ => rfl) hs,
    fun hb => decode_encode_of_not_wellFormed (decide_eq_false hb.not_ge), fun hs hv _ => ?_, fun hs hv hm _ =>
      ⟨_, fillsUnset_version (n_ge_of_configured hs) hv (isTrial b) hm, exec_mxVersion_of_configured hs b⟩⟩
  rw [exec_mxVersion_of_configured hs b, versionWrites_of_lt hv]
  rfl

end Sys2Proof.Machine
end

section
/-! PROOFS. Data placement: it visits the cells outside column 6 in the order of their turns, and each unset cell takes the
bit whose number is the count of unset cells before it (45_matrix.md R245, R246). -/

namespace Sys2Proof.Machine

/-! ### The order of the visits -/

/-- The turn of a cell comes before that of another. -/
def visitedBefore (n : Nat) (p q : Nat × Nat) : Prop := visitTurn n p.1 p.2 < visitTurn n q.1 q.2

/-- `col` is the right column of strip `k` of a matrix of odd size: the columns to its right but column 6 are `2 * k`. -/
def IsStrip (n k col : Nat) : Prop :=
  n % 2 = 1 ∧ (6 < col ∧ col + 1 + 2 * k = n ∨ col < 6 ∧ 1 ≤ col ∧ col + 2 + 2 * k = n)

/-- The row that is visited as number `i` of strip `k`: upward in the even strips, downward in the odd ones. -/
def rowRank (n k r : Nat) : Nat := if k % 2 = 0 then n - 1 - r else r

/-- The rows of a strip come in the order of their ranks. -/
theorem pairwise_stripRows (n k : Nat) : (if k % 2 == 0 then (List.range n).reverse else List.range n).Pairwise
    fun r r' => rowRank n k r < rowRank n k r' := by
  unfold rowRank
  by_cases hk : k % 2 = 0
  · simp only [hk, beq_self_eq_true, if_true]
    refine List.pairwise_reverse.mpr (List.pairwise_lt_range.imp_of_mem fun _ hb hlt => ?_)
    have := List.mem_range.mp hb
    omega
  · simpa [hk] using List.pairwise_lt_range

section Strip

variable {n k col : Nat} (h : IsStrip n k col)
include h

theorem visitTurn_right (r : Nat) : visitTurn n r col = k * (2 * n) + rowRank n k r * 2 := by
  obtain ⟨hodd, hcol⟩ := h
  have hdiv : (if 6 < col then n - 1 - col else n - 2 - col) = 2 * k := by split <;> omega
  simp [visitTurn, hdiv, rowRank]

theorem visitTurn_left (r : Nat) : visitTurn n r (col - 1) = k * (2 * n) + rowRank n k r * 2 + 1 := by
  obtain ⟨hodd, hcol⟩ := h
  have hdiv : (if 6 < col - 1 then n - 1 - (col - 1) else n - 2 - (col - 1)) = 2 * k + 1 := by split <;> omega
  have hhalf : (2 * k + 1) / 2 = k := by omega
  have hmod : (2 * k + 1) % 2 = 1 := by omega
  simp only [visitTurn, hdiv, hhalf, hmod, rowRank]

/-- A strip is the cells of its two columns, with the turns of strip `k`. -/
theorem mem_stripCells {upward : Bool} {p : Nat × Nat} (hp : p ∈ stripCells n col upward) :
    p.1 < n ∧ p.2 < n ∧ p.2 ≠ 6 ∧ k * (2 * n) ≤ visitTurn n p.1 p.2 ∧ visitTurn n p.1 p.2 < (k + 1) * (2 * n) := by
  obtain ⟨r, hr, hp⟩ := List.mem_flatMap.mp hp
  have hr : r < n := by split at hr <;> simpa using hr
  have hrank : rowRank n k r < n := by unfold rowRank; split <;> omega
  have hright := visitTurn_right h r
  have hleft := visitTurn_left h r
  obtain ⟨hodd, hcol⟩ := h
  rw [Nat.succ_mul k (2 * n)]
  obtain rfl | rfl : p = (r, col) ∨ p = (r, col - 1) := by simpa using hp
  all_goals
    dsimp only
    omega

theorem pairwise_stripCells : (stripCells n col (k % 2 == 0)).Pairwise (visitedBefore n) := by
  refine List.pairwise_flatMap.mpr ⟨fun r _ => ?_, (pairwise_stripRows n k).imp fun {r r'} hrr p hp q hq => ?_⟩
  · simp [visitedBefore, visitTurn_right h, visitTurn_left h]
  · simp only [List.mem_cons, List.not_mem_nil, or_false] at hp hq
    unfold visitedBefore
    rcases hp with rfl | rfl <;> rcases hq with rfl | rfl <;> simp only [visitTurn_right h, visitTurn_left h] <;> omega

end Strip
/-! ### The strips in turn -/

/-- `col` is the column right of strips that are still to be walked, the first of them strip `k`; from column 6 the walk
skips to column 5, and at column 0 no strip is left. -/
def IsStripEdge (n k col : Nat) : Prop :=
  n % 2 = 1 ∧ (6 ≤ col ∧ col + 1 + 2 * k = n ∨ col < 6 ∧ 1 ≤ col ∧ col + 2 + 2 * k = n ∨ col = 0)

theorem IsStripEdge.isStrip {n k col : Nat} (h : IsStripEdge n k col) (hcol : col ≠ 0) :
    IsStrip n k (if col = 6 then 5 else col) := by
  obtain ⟨hodd, h⟩ := h
  refine ⟨hodd, ?_⟩
  split <;> omega

theorem IsStrip.next {n k col : Nat} (h : IsStrip n k col) : IsStripEdge n (k + 1) (col - 2) := by
  obtain ⟨hodd, h⟩ := h
  exact ⟨hodd, by omega⟩

theorem stripColumns_succ {fuel col : Nat} (hcol : col ≠ 0) : stripColumns (fuel + 1) col =
    (if col = 6 then 5 else col) :: stripColumns fuel ((if col = 6 then 5 else col) - 2) := if_neg hcol

/-- The strips from strip `k` on are walked in the order of the turns, and stay inside the matrix and out of column 6. -/
theorem walkStrips_ordered {n fuel k col : Nat} (h : IsStripEdge n k col) :
    (walkStrips n (stripColumns fuel col) (k % 2 == 0)).Pairwise (visitedBefore n) ∧
      ∀ p ∈ walkStrips n (stripColumns fuel col) (k % 2 == 0),
        p.1 < n ∧ p.2 < n ∧ p.2 ≠ 6 ∧ k * (2 * n) ≤ visitTurn n p.1 p.2 := by
  induction fuel generalizing k col with
  | zero => simp [stripColumns, walkStrips]
  | succ fuel ih =>
    by_cases hcol : col = 0
    · simp [stripColumns, walkStrips, hcol]
    · have hstrip := h.isStrip hcol
      have hdirection : (!(k % 2 == 0)) = ((k + 1) % 2 == 0) := by
        rw [Bool.eq_iff_iff, Bool.not_eq_true', beq_eq_false_iff_ne, beq_iff_eq]
        omega
      obtain ⟨hrest, hrestmem⟩ := ih hstrip.next
      rw [stripColumns_succ hcol, walkStrips, hdirection]
      refine ⟨List.pairwise_append.mpr ⟨pairwise_stripCells hstrip, hrest, fun p hp q hq => ?_⟩, fun p hp => ?_⟩
      · obtain ⟨-, -, -, -, hlast⟩ := mem_stripCells hstrip hp
        obtain ⟨-, -, -, hfirst⟩ := hrestmem q hq
        exact hlast.trans_le hfirst
      · obtain hp | hp := List.mem_append.mp hp
        · obtain ⟨hr, hc, h6, hfirst, -⟩ := mem_stripCells hstrip hp
          exact ⟨hr, hc, h6, hfirst⟩
        · obtain ⟨hr, hc, h6, hfirst⟩ := hrestmem p hp
          exact ⟨hr, hc, h6, (Nat.mul_le_mul_right _ (Nat.le_succ k)).trans hfirst⟩

theorem zigzag_ordered (v : Nat) : (zigzag (4 * v + 17)).Pairwise (visitedBefore (4 * v + 17)) :=
  (walkStrips_ordered (k := 0) ⟨by omega, by omega⟩).1

theorem zigzag_nodup (v : Nat) : (zigzag (4 * v + 17)).Nodup :=
  (zigzag_ordered v).imp fun hlt heq => by
    rw [heq] at hlt
    exact lt_irrefl _ hlt

/-- Data placement visits the cells outside column 6, and no other. -/
theorem mem_zigzag_iff {v r c : Nat} :
    (r, c) ∈ zigzag (4 * v + 17) ↔ r < 4 * v + 17 ∧ c < 4 * v + 17 ∧ c ≠ 6 := by
  constructor
  · intro hp
    obtain ⟨hr, hc, h6, -⟩ := (walkStrips_ordered (k := 0) ⟨by omega, by omega⟩).2 _ hp
    exact ⟨hr, hc, h6⟩
  · rintro ⟨hr, hc, h6⟩
    exact mem_zigzag hr hc h6

/-! ### The bits the cells take -/

/-- Whether a cell is unset, as a test of its place. -/
def unsetAt (m : Mat) (p : Nat × Nat) : Bool := getCell m p.1 p.2 = .unset

theorem placeBit_snd (mask : Nat) (st : Mat × List Bool) (p : Nat × Nat) :
    (placeBit mask st p).2 = st.2.drop (if unsetAt st.1 p then 1 else 0) := by
  unfold placeBit unsetAt
  by_cases hu : getCell st.1 p.1 p.2 = .unset <;> simp [hu]

theorem getCell_placeBit_ne (mask : Nat) (st : Mat × List Bool) {p q : Nat × Nat} (hne : p ≠ q) :
    getCell (placeBit mask st p).1 q.1 q.2 = getCell st.1 q.1 q.2 := by
  rw [placeBit_fst]
  exact getCell_setu_ne _ hne _

/-- A cell that is not visited keeps its value. -/
theorem getCell_placeBits_of_notMem (mask : Nat) {ps : List (Nat × Nat)} {q : Nat × Nat} (hq : q ∉ ps)
    (st : Mat × List Bool) : getCell (ps.foldl (placeBit mask) st).1 q.1 q.2 = getCell st.1 q.1 q.2 := by
  induction ps generalizing st with
  | nil => rfl
  | cons p ps ih =>
    rw [List.mem_cons, not_or] at hq
    exact (ih hq.2 _).trans (getCell_placeBit_ne mask st (Ne.symm hq.1))

/-- Each unset cell that is visited takes one bit off the stream. -/
theorem placeBits_snd (mask : Nat) {ps : List (Nat × Nat)} (hnodup : ps.Nodup) (st : Mat × List Bool) :
    (ps.foldl (placeBit mask) st).2 = st.2.drop (ps.countP (unsetAt st.1)) := by
  induction ps generalizing st with
  | nil => rfl
  | cons p ps ih =>
    obtain ⟨hp, hnodup⟩ := List.nodup_cons.mp hnodup
    have hsame : ps.countP (unsetAt (placeBit mask st p).1) = ps.countP (unsetAt st.1) :=
      List.countP_congr fun q hq => by
        have hne : p ≠ q := fun h => hp (h ▸ hq)
        rw [unsetAt, unsetAt, getCell_placeBit_ne mask st hne]
    rw [List.foldl_cons, ih hnodup, placeBit_snd, List.drop_drop, hsame, List.countP_cons, Nat.add_comm]

theorem squareMat_placeBits {n mask : Nat} (ps : List (Nat × Nat)) {st : Mat × List Bool} (h : squareMat n st.1) :
    squareMat n (ps.foldl (placeBit mask) st).1 := by
  induction ps generalizing st with
  | nil => exact h
  | cons p ps ih => exact ih (placeBit_fst mask st p ▸ squareMat_setu h _ _ _)

/-- A visited cell that was unset takes the bit after those of the unset cells before it; a set cell is kept. -/
theorem getCell_placeBits {n mask : Nat} {before after : List (Nat × Nat)} {q : Nat × Nat}
    (hnodup : (before ++ q :: after).Nodup) (hr : q.1 < n) (hc : q.2 < n) {m : Mat} (hm : squareMat n m)
    (bits : List Bool) :
    getCell ((before ++ q :: after).foldl (placeBit mask) (m, bits)).1 q.1 q.2 =
      if getCell m q.1 q.2 = .unset
      then shade (bitAt bits (before.countP (unsetAt m)) ^^ maskBit mask q.1 q.2) else getCell m q.1 q.2 := by
  obtain ⟨hbefore, hrest, hdisjoint⟩ := List.nodup_append.mp hnodup
  have hq_before : q ∉ before := fun h => hdisjoint q h q List.mem_cons_self rfl
  have hsq := squareMat_placeBits (mask := mask) before (st := (m, bits)) hm
  have hbits := placeBits_snd mask hbefore (m, bits)
  have hkept := getCell_placeBits_of_notMem mask hq_before (m, bits)
  rw [List.foldl_append, List.foldl_cons, getCell_placeBits_of_notMem mask (List.nodup_cons.mp hrest).1, placeBit_fst,
    getCell_setu hsq hr hc, hkept, hbits]
  simp only [true_and, List.headD_eq_head?_getD, List.head?_drop, bitAt]

/-- The cells visited before `q` are those of lower turns outside column 6. -/
theorem countP_before_eq_bitsBefore {v : Nat} {before after : List (Nat × Nat)} {q : Nat × Nat}
    (h : zigzag (4 * v + 17) = before ++ q :: after) (m : Mat) :
    before.countP (unsetAt m) = bitsBefore (4 * v + 17) m q.1 q.2 := by
  have hordered := zigzag_ordered v
  have hnodup := zigzag_nodup v
  rw [h] at hordered hnodup
  obtain ⟨-, hafter, hbefore⟩ := List.pairwise_append.mp hordered
  have hlt (p) (hp : p ∈ before) : visitedBefore (4 * v + 17) p q := hbefore p hp q List.mem_cons_self
  have hgt (p) (hp : p ∈ after) : visitedBefore (4 * v + 17) q p := (List.pairwise_cons.mp hafter).1 p hp
  rw [List.countP_eq_length_filter, ← List.toFinset_card_of_nodup ((List.nodup_append.mp hnodup).1.filter _), bitsBefore]
  congr 1
  ext p
  have hmem : p ∈ zigzag (4 * v + 17) ↔ p.1 < 4 * v + 17 ∧ p.2 < 4 * v + 17 ∧ p.2 ≠ 6 := mem_zigzag_iff
  rw [h, List.mem_append, List.mem_cons] at hmem
  simp only [List.mem_toFinset, List.mem_filter, Finset.mem_filter, Finset.mem_product, Finset.mem_range, unsetAt,
    decide_eq_true_eq]
  constructor
  · rintro ⟨hp, hu⟩
    obtain ⟨hr, hc, h6⟩ := hmem.mp (.inl hp)
    exact ⟨⟨hr, hc⟩, h6, hlt p hp, hu⟩
  · rintro ⟨⟨hr, hc⟩, h6, hturn, hu⟩
    refine ⟨?_, hu⟩
    obtain hp | rfl | hp := hmem.mpr ⟨hr, hc, h6⟩
    · exact hp
    · exact absurd hturn (lt_irrefl _)
    · exact absurd (hturn.trans (hgt p hp)) (lt_irrefl _)

/-! ### The masked stream -/

theorem bitAt_codewordBits (cw : List Byte) (k : Nat) : bitAt (codewordBits cw) k = streamBit cw k := by
  have := bitAt_bitsOfBytes cw (k / 8) (Nat.mod_lt k (by decide : 0 < 8))
  rwa [Nat.div_add_mod] at this

/-- The machine's mask formulas are those the statements name: masks 5 and 6 by the residue modulo 6 (R246). -/
theorem maskBit_iff_inverts {mask : Nat} (hmask : mask ≤ 7) (r c : Nat) :
    maskBit mask r c = true ↔ inverts mask r c := by
  interval_cases mask <;> simp only [maskBit, inverts, beq_iff_eq] <;> omega

/-- The cell data placement leaves where the matrix had an unset one: its masked bit, unset in column 6 (R245). -/
def dataCellOf (n : Nat) (m : Mat) (cw : List Byte) (mask r c : Nat) : Cell :=
  if c = 6 then .unset else shade (streamBit cw (bitsBefore n m r c) ^^ maskBit mask r c)

theorem dataCell_dataCellOf {mask : Nat} (hmask : mask ≤ 7) (n : Nat) (m : Mat) (cw : List Byte) (r c : Nat) :
    DataCell n m cw mask r c (dataCellOf n m cw mask r c) := by
  unfold DataCell dataCellOf
  split
  · rfl
  · refine ⟨shade_ne_unset _, ?_⟩
    rw [← maskBit_iff_inverts hmask]
    cases streamBit cw (bitsBefore n m r c) <;> cases maskBit mask r c <;> decide

theorem fillsUnset_placeData {v : Nat} {m : Mat} (hm : squareMat (4 * v + 17) m) (cw : List Byte) (mask : Nat) :
    fillsUnset (4 * v + 17) m (placeData (4 * v + 17) cw mask m) (dataCellOf (4 * v + 17) m cw mask) := by
  obtain ⟨hlen, hrows⟩ := squareMat_placeData (k := 4 * v + 17) hm cw mask
  refine ⟨hlen, hrows, fun r c hr hc => ?_⟩
  unfold placeData dataCellOf
  by_cases h6 : c = 6
  · have hout : (r, c) ∉ zigzag (4 * v + 17) := fun h => (mem_zigzag_iff.mp h).2.2 h6
    rw [getCell_placeBits_of_notMem mask hout, if_pos h6]
    exact (ite_eq_right_iff.mpr Eq.symm).symm
  · obtain ⟨before, after, hsplit⟩ := List.append_of_mem (mem_zigzag_iff.mpr ⟨hr, hc, h6⟩)
    have hnodup := zigzag_nodup v
    rw [if_neg h6, ← bitAt_codewordBits, ← countP_before_eq_bitsBefore hsplit]
    rw [hsplit] at hnodup ⊢
    exact getCell_placeBits hnodup hr hc hm _

/-- Settles O44, by the cells the masked stream fills and the check of the mask. -/
theorem dataPlacement : Obligations.DataPlacement := by
  refine fun b s => ⟨wordIs_of_operandBits (Laws.bitsB_toNat b), exec_of_unconfigured fun _ => rfl, fun hs hm hb => ?_,
    fun hs hb => exec_of_bad_mask (fun _ => rfl) hs hb⟩
  have hn := n_of_cfgValid hs.2
  refine ⟨placeData s.n s.cw b.toNat s.mat, dataCellOf s.n s.mat s.cw b.toNat, ?_,
    fun r c _ _ => dataCell_dataCellOf hb _ _ _ r c, by rw [exec_mxData_of_configured hs hb, writeMat_eq]⟩
  rw [State.matShaped, hn] at hm
  rw [hn]
  exact fillsUnset_placeData hm s.cw b.toNat

end Sys2Proof.Machine
end

section
/-! PROOFS. The build is the six construction steps in their order on a clear matrix (45_matrix.md R230, R247, R249). -/

namespace Sys2Proof.Machine

/-! ### A step on a matrix that the step before it left -/

section Steps

variable {s : State} (hs : s.configured) (m : Mat)
include hs

theorem exec_mxFinder_writeMat :
    exec .mxFinder (s.writeMat m) = .next (s.writeMat (place m (allFinderWrites s.n))) :=
  exec_mxFinder_of_configured (s := s.writeMat m) hs

theorem exec_mxAlign_writeMat : exec .mxAlign (s.writeMat m) = .next (s.writeMat (alignAll s.version.toNat m)) :=
  exec_mxAlign_of_configured (s := s.writeMat m) hs

theorem exec_mxTiming_writeMat : exec .mxTiming (s.writeMat m) = .next (s.writeMat (place m (timingWrites s.n))) :=
  exec_mxTiming_of_configured (s := s.writeMat m) hs

theorem exec_mxFormat_writeMat {a : Byte} (ha : a.toNat ≤ 7) (b : Byte) : exec (.mxFormat a b) (s.writeMat m) =
    .next (s.writeMat (place m (formatWrites s.n s.ecl a.toNat (isTrial b)))) :=
  exec_mxFormat_of_configured (s := s.writeMat m) hs ha b

theorem exec_mxVersion_writeMat (b : Byte) : exec (.mxVersion b) (s.writeMat m) =
    .next (s.writeMat (place m (versionWrites s.n s.version.toNat (isTrial b)))) :=
  exec_mxVersion_of_configured (s := s.writeMat m) hs b

theorem exec_mxData_writeMat {a : Byte} (ha : a.toNat ≤ 7) :
    exec (.mxData a) (s.writeMat m) = .next (s.writeMat (placeData s.n s.cw a.toNat m)) :=
  exec_mxData_of_configured (s := s.writeMat m) hs ha

theorem buildMatrix_eq_steps (mask : Nat) (trial : Bool) : buildMatrix s.version.toNat s.ecl s.cw mask trial =
    placeData s.n s.cw mask (place (place (place
      (alignAll s.version.toNat (place (clearMat s.n) (allFinderWrites s.n)))
      (timingWrites s.n)) (formatWrites s.n s.ecl mask trial)) (versionWrites s.n s.version.toNat trial)) := by
  rw [n_of_cfgValid hs.2]
  rfl

end Steps

/-- Settles O45: each command does its step on what the command before it left. -/
theorem matrixBuild : Obligations.MatrixBuild := by
  refine fun a b s => ⟨wordIs_of_operandBits (Laws.bitsAB_toNat a b), fun hs _ => exec_of_unconfigured (fun _ => rfl) hs,
    fun hb => decode_encode_of_not_wellFormed (decide_eq_false hb.not_ge), fun hs ha _ => ?_,
    fun hs ha _ => exec_of_bad_mask (fun _ => rfl) hs ha⟩
  have hsteps := buildMatrix_eq_steps hs a.toNat (isTrial b)
  have hbuild := exec_mxBuild_of_configured hs ha b
  have hsquare := squareMat_buildMatrix s.version.toNat s.ecl s.cw a.toNat (isTrial b)
  have hcomplete := buildMatrix_complete s.version.toNat s.ecl s.cw a.toNat (isTrial b)
  rw [← n_of_cfgValid hs.2] at hsquare
  generalize buildMatrix s.version.toNat s.ecl s.cw a.toNat (isTrial b) = m at hsteps hbuild hsquare hcomplete
  exact ⟨_, _, _, _, _, _, s.writeMat m, exec_mxClr_of_configured hs, exec_mxFinder_writeMat hs _,
    exec_mxAlign_writeMat hs _, exec_mxTiming_writeMat hs _, exec_mxFormat_writeMat hs _ ha b,
    exec_mxVersion_writeMat hs _ b, hsteps ▸ exec_mxData_writeMat hs _ ha, hs.1, hsquare, hcomplete, hbuild⟩

end Sys2Proof.Machine
end

section
/-! PROOFS. The penalty scorer: each sum over rows and columns counts the cells it names, and MS_SCORE and PEN_GET write and
read the record (46_mask.md R270 to R272, R277). -/

namespace Sys2Proof.Machine

/-! ### Sums over rows and columns -/

theorem sumRange_eq_sum (n : Nat) (f : Nat → Nat) : sumRange n f = ∑ i ∈ Finset.range n, f i := rfl

theorem sumRange_congr {n : Nat} {f g : Nat → Nat} (h : ∀ i < n, f i = g i) : sumRange n f = sumRange n g :=
  Finset.sum_congr rfl fun i hi => h i (Finset.mem_range.mp hi)

theorem sumRange_comm (a b : Nat) (f : Nat → Nat → Nat) :
    (sumRange a fun i => sumRange b fun j => f i j) = sumRange b fun j => sumRange a fun i => f i j := by
  simp only [sumRange_eq_sum, Finset.sum_comm (s := Finset.range a)]

/-- A sum that gives the weight `w` to the cells of a kind counts them; `Q` says of a cell of the `n × n` matrix that it is
inside the rectangle summed over and of that kind. -/
theorem sumRange_eq_card {n a b w : Nat} (ha : a ≤ n) (hb : b ≤ n) {P : Nat → Nat → Prop}
    [∀ r c, Decidable (P r c)] {Q : Nat × Nat → Prop} [DecidablePred Q]
    (hQ : ∀ r < n, ∀ c < n, (Q (r, c) ↔ r < a ∧ c < b ∧ P r c)) :
    (sumRange a fun r => sumRange b fun c => if P r c then w else 0) =
      w * ((Finset.range n ×ˢ Finset.range n).filter Q).card := by
  have hcells : (Finset.range n ×ˢ Finset.range n).filter Q =
      (Finset.range a ×ˢ Finset.range b).filter fun p => P p.1 p.2 := by
    ext ⟨r, c⟩
    simp only [Finset.mem_filter, Finset.mem_product, Finset.mem_range]
    constructor
    · rintro ⟨⟨hr, hc⟩, h⟩
      obtain ⟨hr', hc', hP⟩ := (hQ r hr c hc).mp h
      exact ⟨⟨hr', hc'⟩, hP⟩
    · rintro ⟨⟨hr, hc⟩, hP⟩
      exact ⟨⟨hr.trans_le ha, hc.trans_le hb⟩, (hQ r (hr.trans_le ha) c (hc.trans_le hb)).mpr ⟨hr, hc, hP⟩⟩
  rw [hcells, Finset.card_filter, Finset.sum_product, Finset.mul_sum]
  simp only [sumRange_eq_sum, Finset.mul_sum, mul_ite, mul_one, mul_zero]

/-! ### The rules (R271) -/

theorem colour_eq_iff {m : Mat} {r c : Nat} {b : Bool} : colour m r c = b ↔ (getCell m r c = .dark ↔ b = true) := by
  cases b <;> simp [colour]

theorem colour_eq_colour_iff {m : Mat} {r c r' c' : Nat} :
    colour m r c = colour m r' c' ↔ (getCell m r c = .dark ↔ getCell m r' c' = .dark) := by
  rw [colour_eq_iff, colour, beq_iff_eq]

theorem mem_near {n r x : Nat} (hr : r < n) : x ∈ near n r ↔ x < n ∧ x ≤ r + 1 ∧ r ≤ x + 1 := by
  unfold near
  split <;> split <;> simp <;> omega

theorem nodup_near (n r : Nat) : (near n r).Nodup := by
  unfold near
  split <;> split <;> simp <;> omega

/-- The cells about `(r, c)` that the machine lists once each are those the statement counts (R271, rule 1). -/
theorem sameNeighbours_eq_neighboursAlike {m : Mat} {n r c : Nat} (hr : r < n) (hc : c < n) :
    sameNeighbours m n r c = neighboursAlike m n r c := by
  have hnodup : (near n r ×ˢ near n c).Nodup := (nodup_near n r).product (nodup_near n c)
  change ((near n r ×ˢ near n c).filter _).length = _
  rw [neighboursAlike, ← List.toFinset_card_of_nodup (hnodup.filter _)]
  congr 1
  ext ⟨r', c'⟩
  simp only [List.mem_toFinset, List.mem_filter, List.mem_product, mem_near hr, mem_near hc, Finset.mem_filter,
    Finset.mem_product, Finset.mem_range, Bool.and_eq_true, bne_iff_ne, beq_iff_eq, colour_eq_colour_iff]
  tauto

theorem penaltyR1_eq (m : Mat) (n : Nat) : penaltyR1 m n = (countedPenalty m n).r1 := by
  refine sumRange_congr fun r hr => sumRange_congr fun c hc => ?_
  rw [sameNeighbours_eq_neighboursAlike hr hc]
  split <;> omega

theorem penaltyR2_eq (m : Mat) (n : Nat) : penaltyR2 m n = (countedPenalty m n).r2 := by
  refine sumRange_eq_card (Nat.sub_le n 1) (Nat.sub_le n 1) fun r _ c _ => ?_
  simp only [colour_eq_colour_iff, Nat.lt_sub_iff_add_lt]

/-- Seven cells are the pattern of rule 3 when each is dark where the pattern is. -/
theorem run_eq_finderRun_iff {f : Nat → Bool} : (List.range 7).map f = finderRun ↔ ∀ k < 7, f k = finderLike k := by
  rw [show finderRun = (List.range 7).map finderLike from rfl, List.map_inj_left]
  simp only [List.mem_range]

theorem penaltyR3_eq (m : Mat) (n : Nat) : penaltyR3 m n = (countedPenalty m n).r3 := by
  refine (congrArg₂ (· + ·) (sumRange_eq_card le_rfl (Nat.sub_le n 6) fun r hr c _ => ?_)
    ((sumRange_comm n (n - 6) _).trans (sumRange_eq_card (Nat.sub_le n 6) le_rfl fun r _ c hc => ?_))).trans
      (Nat.mul_add 40 _ _).symm
  · simp only [run_eq_finderRun_iff, colour_eq_iff, Nat.lt_sub_iff_add_lt, hr, true_and]
  · simp only [run_eq_finderRun_iff, colour_eq_iff, Nat.lt_sub_iff_add_lt, hc, true_and]

theorem darkCount_eq (m : Mat) (n : Nat) : darkCount m n = (countedPenalty m n).dk := by
  have hcell (r c : Nat) : (colour m r c).toNat = if getCell m r c = .dark then 1 else 0 := by
    by_cases h : getCell m r c = .dark <;> simp [colour, h]
  simp only [darkCount, hcell]
  refine (sumRange_eq_card le_rfl le_rfl fun r hr c hc => ?_).trans (Nat.one_mul _)
  simp only [hr, hc, true_and]

theorem penalty_eq_countedPenalty (m : Mat) (n : Nat) : penalty m n = countedPenalty m n := by
  rw [penalty, penaltyR1_eq, penaltyR2_eq, penaltyR3_eq, darkCount_eq]

/-! ### The commands (R272, R277) -/

theorem isComplete_iff {m : Mat} : isComplete m = true ↔ ∀ row ∈ m, ∀ cell ∈ row, cell ≠ .unset := by
  simp only [isComplete, List.all_eq_true, bne_iff_ne]

theorem isMaskId_iff {b : Byte} : isMaskId b = true ↔ b.toNat < 8 := decide_eq_true_iff

theorem setPen_eq {s : State} {k : Nat} (h : k < 8) (p : Penalty) : s.setPen k p = { s with pen := s.pen.set k p h } := by
  have hset : s.pen.setIfInBounds k p = s.pen.set k p h := by
    simp [Vector.setIfInBounds, Vector.set, Array.setIfInBounds, h]
  rw [State.setPen, hset]

theorem getPen_eq (s : State) {k : Nat} (h : k < 8) : s.getPen k = s.pen[k] := by
  simp [State.getPen, h]

/-- Settles O46: the slot is checked, then the matrix; the record written is the counted one. -/
theorem matrixScore : Obligations.MatrixScore := by
  refine fun b s => ⟨wordIs_of_operandBits (Laws.bitsB_toNat b), exec_of_unconfigured fun _ => rfl,
    fun hb hs hcells => ?_, fun hs hb => ?_, fun hs hb hunset => ?_⟩
  · rw [← penalty_eq_countedPenalty, ← setPen_eq]
    exact exec_of_configured_ok (fun _ => rfl) hs
      ((require_of_true (isMaskId_iff.mpr hb) _ _).trans (require_of_true (isComplete_iff.mpr hcells) _ _))
  · exact exec_of_configured_error (e := .invalidFieldOperand) (fun _ => rfl) hs
      (require_of_false (fun h => hb.not_gt (isMaskId_iff.mp h)) _ _)
  · obtain ⟨row, hrow, hcell⟩ := hunset
    exact exec_of_configured_error (e := .sequenceError) (fun _ => rfl) hs
      ((require_of_true (isMaskId_iff.mpr hb) _ _).trans
        (require_of_false (fun h => isComplete_iff.mp h row hrow _ hcell rfl) _ _))

theorem exec_penGet_of_slot {a : Byte} {s : State} (h : a.toNat < 8) (he : s.err = 0) (b : Byte) :
    exec (.penGet a b) s = .next { s with result := zext32 (penaltyPart s.pen[a.toNat] b.toNat) } := by
  rw [← getPen_eq]
  exact exec_of_rule_ok (fun _ => rfl) he (require_of_true (isMaskId_iff.mpr h) _ _)

/-- Settles O49: the slot is checked, then the part is read. -/
theorem penaltyReads : Obligations.PenaltyReads := fun a b _ =>
  ⟨wordIs_of_operandBits (Laws.bitsAB_toNat a b),
    fun h he => ⟨exec_penGet_of_slot h he 0, exec_penGet_of_slot h he 1, exec_penGet_of_slot h he 2,
      exec_penGet_of_slot h he 3⟩,
    fun hb => decode_encode_of_not_wellFormed (decide_eq_false hb.not_ge),
    fun he ha _ => exec_of_failed_check (e := .invalidFieldOperand) (fun _ => rfl) he
      fun h => ha.not_gt (isMaskId_iff.mp h)⟩

end Sys2Proof.Machine
end

section
/-! PROOFS. The mask selector: its key is the exact score times the number of cells, so the first mask of the least key is
the first of the least score (46_mask.md R273 to R278). -/

namespace Sys2Proof.Machine

/-! ### The score and the least of the masks (R273, R274) -/

theorem cells_pos {n : Nat} (hn : 0 < n) : (0 : ℚ) < (n * n : Nat) := Nat.cast_pos.mpr (Nat.mul_pos hn hn)

/-- The key of a record is its exact score times the number of cells (R273). -/
theorem penaltyKey_eq {n : Nat} (hn : 0 < n) (p : Penalty) : (penaltyKey n p : ℚ) = (n * n : Nat) * score n p := by
  have hcells := cells_pos hn
  have hshare : ((n * n : Nat) : ℚ) * |50 - 100 * (p.dk : ℚ) / (n * n : Nat)| =
      |50 * ((n * n : Nat) : ℚ) - 100 * p.dk| := by
    rw [← abs_of_pos hcells, ← abs_mul, abs_of_pos hcells, mul_sub, mul_div_cancel₀ _ hcells.ne', mul_comm]
  unfold penaltyKey score
  push_cast [Nat.cast_natAbs] at hshare ⊢
  linear_combination -2 * hshare

theorem score_le_iff {n : Nat} (hn : 0 < n) (p q : Penalty) : score n p ≤ score n q ↔ penaltyKey n p ≤ penaltyKey n q := by
  rw [← mul_le_mul_iff_right₀ (cells_pos hn), ← penaltyKey_eq hn, ← penaltyKey_eq hn, Nat.cast_le]

theorem score_lt_iff {n : Nat} (hn : 0 < n) (p q : Penalty) : score n p < score n q ↔ penaltyKey n p < penaltyKey n q := by
  rw [← not_le, score_le_iff hn, not_le]

/-- Of two masks, the second only if its key is less (R274). -/
def keepLess (key : Fin 8 → Nat) (best m : Fin 8) : Fin 8 := if key m < key best then m else best

theorem bestMask_eq (n : Nat) (pen : Vector Penalty 8) :
    bestMask n pen = (List.finRange 8).foldl (keepLess fun m => penaltyKey n pen[m]) 0 := rfl

/-- No mask of the list has a key below that of `best`, and the masks less than `best` have greater keys (R274). -/
def IsFirstLeast (key : Fin 8 → Nat) (masks : List (Fin 8)) (best : Fin 8) : Prop :=
  ∀ k ∈ masks, key best ≤ key k ∧ (k < best → key best < key k)

/-- The mask kept of an ascending list is the first of least key: a later mask replaces it only by a lesser one. -/
theorem isFirstLeast_foldl {key : Fin 8 → Nat} {best : Fin 8} {masks : List (Fin 8)}
    (hsorted : (best :: masks).Pairwise (· ≤ ·)) :
    IsFirstLeast key (best :: masks) (masks.foldl (keepLess key) best) := by
  induction masks generalizing best with
  | nil => simp [IsFirstLeast]
  | cons m masks ih =>
    obtain ⟨hbest, hrest⟩ := List.pairwise_cons.mp hsorted
    rw [List.foldl_cons]
    by_cases hless : key m < key best
    · rw [keepLess, if_pos hless]
      have hkept := ih hrest
      have hlt := (hkept m List.mem_cons_self).1.trans_lt hless
      exact List.forall_mem_cons.mpr ⟨⟨hlt.le, fun _ => hlt⟩, hkept⟩
    · rw [keepLess, if_neg hless]
      have hkept := ih (hsorted.sublist (.cons_cons best (List.sublist_cons_self m masks)))
      obtain ⟨⟨hle, hlt⟩, hmasks⟩ := List.forall_mem_cons.mp hkept
      have hm := hbest m List.mem_cons_self
      have hkey := not_lt.mp hless
      exact List.forall_mem_cons.mpr ⟨⟨hle, hlt⟩,
        List.forall_mem_cons.mpr ⟨⟨hle.trans hkey, fun h => (hlt (hm.trans_lt h)).trans_le hkey⟩, hmasks⟩⟩

theorem isFirstLeast_bestMask (n : Nat) (pen : Vector Penalty 8) :
    IsFirstLeast (fun m => penaltyKey n pen[m]) (List.finRange 8) (bestMask n pen) := by
  have hsorted : (0 :: List.finRange 8).Pairwise (· ≤ ·) := by decide
  rw [bestMask_eq]
  exact fun k hk => isFirstLeast_foldl (key := fun m => penaltyKey n pen[m]) hsorted k (.tail _ hk)

/-! ### The command (R275, R276, R278) -/

theorem trialPenalties_getElem (v : Nat) (ecl : BitVec 2) (cw : List Byte) (k : Fin 8) :
    (trialPenalties v ecl cw)[k] = penalty (buildMatrix v ecl cw k.val true) (4 * v + 17) := by
  simp [trialPenalties]

theorem exec_msSelect_of_configured {s : State} (hs : s.configured) : exec .msSelect s = .next s.selectMask :=
  exec_of_configured_ok (fun _ => rfl) hs rfl

/-- The matrix MX_BUILD leaves for the mask `k` (45_matrix.md R247). -/
theorem exec_mxBuild_of_mask {s : State} (hs : s.configured) (k : Fin 8) (b : Byte) :
    exec (.mxBuild (BitVec.ofNat 8 k.val) b) s =
      .next (s.writeMat (buildMatrix s.version.toNat s.ecl s.cw k.val (isTrial b))) := by
  have hk : (BitVec.ofNat 8 k.val).toNat = k.val := by rw [BitVec.toNat_ofNat, Nat.mod_eq_of_lt (by omega)]
  have := exec_mxBuild_of_configured hs (a := BitVec.ofNat 8 k.val) (by omega) b
  rwa [hk] at this

/-- Settles O47: the trial records are those of the matrices MX_BUILD makes, and the kept mask is the first of least
score. -/
theorem maskSelection : Obligations.MaskSelection := by
  refine fun s => ⟨wordIs_of_operandBits rfl, exec_of_unconfigured fun _ => rfl, fun hs => ?_⟩
  have hn : 0 < s.n := lt_of_lt_of_le (by decide) (n_ge_of_configured hs)
  have hbest (k : Fin 8) := isFirstLeast_bestMask s.n (trialPenalties s.version.toNat s.ecl s.cw) k (List.mem_finRange k)
  refine ⟨trialPenalties s.version.toNat s.ecl s.cw,
    buildMatrix s.version.toNat s.ecl s.cw s.chosenMask.val false, s.chosenMask,
    fun k => ⟨_, exec_mxBuild_of_mask hs k 1, hs.1, ?_⟩, ⟨_, exec_mxBuild_of_mask hs _ 0, hs.1, rfl⟩,
    fun k => (score_le_iff hn _ _).mpr (hbest k).1, fun k hk => (score_lt_iff hn _ _).mpr ((hbest k).2 hk), ?_⟩
  · rw [trialPenalties_getElem, ← n_of_cfgValid hs.2, penalty_eq_countedPenalty]
    rfl
  · rw [exec_msSelect_of_configured hs, State.selectMask, ← BitVec.ofNat_finVal (w := 3) s.chosenMask, zext32]

/-- Settles O48: every field MS_SELECT writes is a function of `VERSION`, `ECL` and `CW`. -/
theorem selectionDependsOnCodewordsAlone : Obligations.SelectionDependsOnCodewordsAlone := by
  intro s s' t t' hs hs' hver hecl hcw ht ht'
  cases (exec_msSelect_of_configured hs).symm.trans ht
  cases (exec_msSelect_of_configured hs').symm.trans ht'
  have hcfg := hs.2.trans hs'.2.symm
  obtain ⟨hmat, hsel⟩ := selectMask_congr hcfg hver hecl hcw
  refine ⟨?_, hmat, hsel, ?_⟩
  · rw [selectMask_pen, selectMask_pen, hver, hecl, hcw]
  · rw [selectMask_result, selectMask_result, chosenMask_congr hcfg hver hecl hcw]

end Sys2Proof.Machine
end

section
/-! PROOFS. The façade: a build is the pipeline ENC_DATA, ENC_RS, ENC_ILV, MS_SELECT with the cache marked valid, and RD_DARK
and RD_MASK read the cached symbol or the one a build makes (47_facade.md R290 to R295). -/

namespace Sys2Proof.Machine

/-! ### The encoder commands on what the step before them left (R196, R198, R199) -/

theorem exec_encData_of_ok {s : State} {bb : List Bool} (hs : s.configured) (hbb : s.dataStream = .ok bb) :
    exec .encData s = .next (s.writeBb bb) := by
  refine exec_of_configured_ok exec_encData hs ?_
  rw [hbb]
  rfl

theorem exec_encRs_of_ok {s : State} {dc ec : List (List Byte)} (hs : s.configured)
    (hfull : s.bb.length = 8 * totalDataCount s.version.toNat s.ecl)
    (hblocks : codeBlocks s.bb 0 (plan s.version.toNat s.ecl) = .ok (dc, ec)) :
    exec .encRs s = .next (s.setBlocks dc ec) := by
  refine exec_of_configured_ok exec_encRs hs ((require_of_true hfull _ _).trans ?_)
  rw [hblocks]
  rfl

theorem exec_encIlv_of_rsValid {s : State} (hs : s.configured) (hrs : s.rsValid = true) :
    exec .encIlv s = .next (s.setCw (interleave s.dc s.ec)) :=
  exec_of_configured_ok exec_encIlv hs (require_of_true hrs _ _)

/-! ### The build (R290) -/

/-- The four commands of the pipeline run one after another on segments that fit, and the build ends in the state they
leave, with the cache valid. -/
theorem buildSymbol_of_fits {s : State} (hs : s.configured) (hfits : s.fits) : ∃ s1 s2 s3 t,
    exec .encData s = .next s1 ∧ exec .encRs s1 = .next s2 ∧ exec .encIlv s2 = .next s3 ∧ exec .msSelect s3 = .next t ∧
      t.err = 0 ∧ s.buildSymbol = .ok t.markMatValid := by
  obtain ⟨bb, hbb, -⟩ := dataStream_of_fits hfits
  obtain ⟨dc, ec, hblocks, -⟩ := exists_codeBlocks bb 0 (plan s.version.toNat s.ecl)
  exact ⟨s.writeBb bb, (s.writeBb bb).setBlocks dc ec, ((s.writeBb bb).setBlocks dc ec).setCw (interleave dc ec), _,
    exec_encData_of_ok hs hbb, exec_encRs_of_ok hs (dataStream_length hbb) hblocks, exec_encIlv_of_rsValid hs rfl,
    exec_msSelect_of_configured hs, (selectMask_err _).trans hs.1,
    buildSymbol_eq_ok_iff.mpr ⟨bb, dc, ec, hbb, hblocks, rfl⟩⟩

theorem buildSymbol_of_not_fits {s : State} (h : ¬ s.fits) : s.buildSymbol = .error .capacityOverflow := by
  rw [State.buildSymbol, dataStream_of_not_fits h]
  rfl

/-- Settles O50: the build is the pipeline, and its one failure is that of the segments. -/
theorem buildRunsThePipeline : Obligations.BuildRunsThePipeline := by
  refine fun s => ⟨wordIs_of_operandBits (i := .build) rfl, exec_of_unconfigured exec_build, fun hs hfits => ?_,
    fun hs hfits => exec_of_configured_error exec_build hs (buildSymbol_of_not_fits hfits)⟩
  obtain ⟨s1, s2, s3, t, hdata, hrs, hilv, hselect, herr, hbuild⟩ := buildSymbol_of_fits hs hfits
  exact ⟨s1, s2, s3, t, hdata, hrs, hilv, hselect, herr, exec_of_configured_ok exec_build hs hbuild⟩

/-! ### The lazy reads (R292 to R294) -/

theorem lazyBuild_of_matValid {s : State} (h : s.matValid = true) : s.lazyBuild = .ok s := if_pos h

theorem lazyBuild_of_not_matValid {s : State} (h : s.matValid = false) : s.lazyBuild = s.buildSymbol :=
  if_neg (ne_true_of_eq_false h)

section LazyRead

variable {i : Instr} {s : State} {k : State → Except ErrKind State} {f : State → Word}
  (hi : ∀ s, exec i s = runCommand i.opcode (fun s => requireSymbol s (k s)) s) (hs : s.configured)
  (hk : k s = s.lazyBuild.map fun t => t.setResult (f t))
include hi hs hk

/-- A read of the cached symbol changes RESULT alone. -/
theorem exec_of_cached_read (hvalid : s.matValid = true) : exec i s = .next { s with result := f s } := by
  refine exec_of_configured_ok hi hs (hk.trans ?_)
  rw [lazyBuild_of_matValid hvalid]
  rfl

/-- A read without a cached symbol is a read of the state BUILD leaves. -/
theorem exec_of_building_read (hinvalid : s.matValid = false) (hfits : s.fits) :
    ∃ t, exec .build s = .next t ∧ t.err = 0 ∧ exec i s = .next { t with result := f t } := by
  obtain ⟨-, -, -, t, -, -, -, -, herr, hbuild⟩ := buildSymbol_of_fits hs hfits
  refine ⟨t.markMatValid, exec_of_configured_ok exec_build hs hbuild, herr, exec_of_configured_ok hi hs (hk.trans ?_)⟩
  rw [lazyBuild_of_not_matValid hinvalid, hbuild]
  rfl

/-- A read whose build fails records the failure of the build (44_encoder.md R207). -/
theorem exec_of_overflowing_read (hinvalid : s.matValid = false) (hfits : ¬ s.fits) :
    exec i s = .next (s.failed 2 i) := by
  refine exec_of_configured_error (e := .capacityOverflow) hi hs (hk.trans ?_)
  rw [lazyBuild_of_not_matValid hinvalid, buildSymbol_of_not_fits hfits]
  rfl

end LazyRead

theorem exec_rdDark (a b : Byte) (s : State) :
    exec (.rdDark a b) s = runCommand (Instr.rdDark a b).opcode (fun s => requireSymbol s <|
      require (a.toNat < s.n ∧ b.toNat < s.n) .boundsViolation <|
      s.lazyBuild.map fun t => t.setResult (flagBit (colour t.mat a.toNat b.toNat))) s := rfl

theorem exec_rdMask (s : State) :
    exec .rdMask s = runCommand Instr.rdMask.opcode (fun s => requireSymbol s <|
      s.lazyBuild.map fun t => t.setResult (t.sel.setWidth 32)) s := rfl

theorem flagBit_colour (m : Mat) (r c : Nat) : flagBit (colour m r c) = if getCell m r c = .dark then 1 else 0 := by
  simp only [flagBit, colour, beq_iff_eq]

/-- Settles O52: the bounds are checked, then the module is read through the lazy build. -/
theorem darkReadBuildsLazily : Obligations.DarkReadBuildsLazily := by
  intro a b s
  simp only [← flagBit_colour]
  exact ⟨wordIs_of_operandBits (Laws.bitsAB_toNat a b), exec_of_unconfigured (exec_rdDark a b),
    fun hs hout => exec_of_configured_error (exec_rdDark a b) hs (require_of_false (by omega) .boundsViolation _),
    fun hs ha hb => exec_of_cached_read (f := fun t => flagBit (colour t.mat a.toNat b.toNat)) (exec_rdDark a b) hs
      (require_of_true ⟨ha, hb⟩ _ _),
    fun hs ha hb => exec_of_building_read (f := fun t => flagBit (colour t.mat a.toNat b.toNat)) (exec_rdDark a b) hs
      (require_of_true ⟨ha, hb⟩ _ _),
    fun hs ha hb => exec_of_overflowing_read (exec_rdDark a b) hs (require_of_true ⟨ha, hb⟩ _ _)⟩

/-- Settles O53: the mask is read through the lazy build. -/
theorem maskReadBuildsLazily : Obligations.MaskReadBuildsLazily := fun _ =>
  ⟨wordIs_of_operandBits (i := .rdMask) rfl, exec_of_unconfigured exec_rdMask,
    fun hs => exec_of_cached_read (f := fun t => t.sel.setWidth 32) exec_rdMask hs rfl,
    fun hs => exec_of_building_read (f := fun t => t.sel.setWidth 32) exec_rdMask hs rfl,
    fun hs => exec_of_overflowing_read exec_rdMask hs rfl⟩

/-! ### The reads of the count and the configuration (R291, R295) -/

theorem exec_rdCount (s : State) :
    exec .rdCount s = runCommand Instr.rdCount.opcode (fun s => requireSymbol s <| .ok (s.setResult (zext32 s.n))) s := rfl

/-- RD_CFG's two fields: `VERSION` below `ECL`. -/
def State.cfgWord (s : State) : Word := s.version.setWidth 32 ||| s.ecl.setWidth 32 <<< 8

theorem exec_rdCfg (s : State) :
    exec .rdCfg s = runCommand Instr.rdCfg.opcode (fun s => requireSymbol s <| .ok (s.setResult s.cfgWord)) s := rfl

theorem cfgWord_eq (s : State) : s.cfgWord = BitVec.ofNat 32 (s.version.toNat + s.ecl.toNat * 2 ^ 8) := by
  have hversion : (s.version.setWidth 32).toNat = s.version.toNat := BitVec.toNat_setWidth_of_le (by decide)
  have hecl : (s.ecl.setWidth 32).toNat = s.ecl.toNat := BitVec.toNat_setWidth_of_le (by decide)
  have hword : s.cfgWord.toNat = (s.version.setWidth 32).toNat + s.ecl.toNat * 2 ^ 8 :=
    or_shiftLeft_toNat (by omega) hecl (by omega)
  rw [← hversion, ← hword, BitVec.ofNat_toNat, BitVec.setWidth_eq]

/-- Settles O51: each read writes one word of the configuration. -/
theorem countAndConfigurationReads : Obligations.CountAndConfigurationReads := by
  refine fun s => ⟨wordIs_of_operandBits (i := .rdCount) rfl, wordIs_of_operandBits (i := .rdCfg) rfl,
    exec_of_unconfigured exec_rdCount, exec_of_unconfigured exec_rdCfg, fun hs => ?_, fun hs => ?_⟩
  · rw [← n_of_cfgValid hs.2]
    exact exec_of_configured_ok exec_rdCount hs rfl
  · rw [← cfgWord_eq]
    exact exec_of_configured_ok exec_rdCfg hs rfl

end Sys2Proof.Machine
end

section
/-! PROOFS. The control commands (48_control.md R300 to R303). -/

namespace Sys2Proof.Machine

/-- ERR_CLR is never discarded, so it clears the error in every state (60_exceptions.md R313). -/
theorem exec_errClr (s : State) : exec .errClr s = .next s.clearError :=
  show execErrClr s = _ from runCommand_of_executes rfl rfl

/-- Settles O17: NOP and ID run their rules while no error is recorded, ERR_CLR and SOFT_RESET in every state. -/
theorem controlCommands : Obligations.ControlCommands := fun s =>
  ⟨fun he => exec_of_rule_ok (i := .nop) (body := .ok) (fun _ => rfl) he rfl, exec_errClr s, exec_softReset s,
    exec_of_setResult (i := .ident) fun _ => rfl, wordIs_of_operandBits (i := .nop) rfl,
    wordIs_of_operandBits (i := .errClr) rfl, wordIs_of_operandBits (i := .softReset) rfl,
    wordIs_of_operandBits (i := .ident) rfl⟩

end Sys2Proof.Machine
end

section
/-! PROOFS. The idle step and the reset input (60_exceptions.md R324, 70_reset_and_hazards.md R340 to R343). -/

namespace Sys2Proof.Machine

/-- Settles O7, by the rule of the idle step. -/
theorem idleStepHoldsState : Obligations.IdleStepHoldsState := fun _ => step_of_idle

/-- Settles O10: both events of the reset input reset the core. -/
theorem resetInput : Obligations.ResetInput := by
  intro s cmd rest hp
  obtain hp | hp := hp
  all_goals
    rw [step_of_pending hp]
    rfl

end Sys2Proof.Machine
end

section
/-! PROOFS. Errors are precise, and a recorded error discards every command but two (60_exceptions.md R312, R313). -/

namespace Sys2Proof.Machine

/-! ### The discard rule (R313) -/

theorem executesInError_eq_false {i : Instr} (hclr : i ≠ .errClr) (hreset : i ≠ .softReset) :
    executesInError i.opcode = false := by
  cases i with
  | errClr => exact absurd rfl hclr
  | softReset => exact absurd rfl hreset
  | _ => rfl

/-- While an error is recorded every command but ERR_CLR and SOFT_RESET is discarded. -/
theorem exec_of_error {i : Instr} {s : State} (he : s.err ≠ 0) (hclr : i ≠ .errClr) (hreset : i ≠ .softReset) :
    exec i s = .next s := by
  obtain ⟨body, hi⟩ := exec_eq_runCommand i
  exact (hi s).trans (runCommand_of_discard he (executesInError_eq_false hclr hreset))

/-- While an error is recorded every word but those of ERR_CLR and SOFT_RESET, legal or not, is
discarded. -/
theorem runWord_of_error {w : Word} {s : State} (he : s.err ≠ 0) (hclr : w ≠ encode .errClr)
    (hreset : w ≠ encode .softReset) : runWord w s = .next s := by
  cases hw : decode w with
  | error r => exact runWord_of_illegal_error hw he
  | ok i =>
    obtain ⟨rfl, -⟩ := decode_eq_ok_iff.mp hw
    exact (runWord_of_legal hw s).trans (exec_of_error he (ne_of_apply_ne encode hclr) (ne_of_apply_ne encode hreset))

/-- Settles O13: the two commands that execute while an error is recorded, by their own rules; the rest is discarded. -/
theorem errorDiscardsCommands : Obligations.ErrorDiscardsCommands := fun s he =>
  ⟨fun _ => exec_of_error he, fun _ => runWord_of_error he, exec_errClr s, exec_softReset s⟩

/-! ### Precise errors (R312) -/

/-- A command that succeeds records no error: it keeps the code or clears it. -/
theorem effect_err {i : Instr} {s t : State} (h : Effect i s t) : t.err = s.err ∨ t.err = 0 := by
  cases h with
  | clearError | reset => exact .inr rfl
  | select => exact .inl (selectMask_err s)
  | build _ _ _ hb | buildAndRead _ _ _ _ _ hb =>
    obtain ⟨bb, dc, ec, -, -, rfl⟩ := buildSymbol_eq_ok_iff.mp hb
    exact .inl (by simp)
  | _ => exact .inl rfl

/-- A command run with no error recorded leaves one only by failing. -/
theorem exec_of_ready_cases {i : Instr} {s t : State} (he : s.err = 0) (h : exec i s = .next t) :
    t.err = 0 ∨ ∃ e : ErrKind, t = s.failed e.code i := by
  cases exec_outcome h with
  | discarded hne => exact absurd he hne
  | succeeded heff => exact .inl ((effect_err heff).elim (·.trans he) id)
  | failed e => exact .inr ⟨e, rfl⟩

/-- A command run with an error recorded changes nothing, unless it clears the error. -/
theorem exec_of_error_cases {i : Instr} {s t : State} (he : s.err ≠ 0) (h : exec i s = .next t) :
    t = s ∨ t.err = 0 := by
  by_cases hclr : i = .errClr
  · subst hclr
    cases (exec_errClr s).symm.trans h
    exact .inr rfl
  by_cases hreset : i = .softReset
  · subst hreset
    cases (exec_softReset s).symm.trans h
    exact .inr rfl
  cases (exec_of_error he hclr hreset).symm.trans h
  exact .inl rfl

/-- Settles O12: by what a command does with an error recorded, and with none. -/
theorem errorsArePrecise : Obligations.ErrorsArePrecise := by
  intro i s t h ht
  by_cases he : s.err = 0
  · obtain hok | ⟨e, rfl⟩ := exec_of_ready_cases he h
    · exact absurd hok ht
    · exact .inr ⟨he, rfl⟩
  · exact .inl ((exec_of_error_cases he h).resolve_right ht)

end Sys2Proof.Machine
end

section
/-! PROOFS. The commands that require a symbol and those that never fail (60_exceptions.md R311, R314). -/

namespace Sys2Proof.Machine

/-- Each command of R311's SequenceError row checks for a symbol before anything else. -/
theorem rule_of_needsSymbol {i : Instr} (h : i.needsSymbol = true) :
    ∃ k : State → Except ErrKind State,
      ∀ s, exec i s = runCommand i.opcode (fun s => requireSymbol s (k s)) s := by
  cases i with
  | segBegin | segByte | encData | encRs | encIlv | planCnt | planGet | mxClr | mxFinder | mxAlign | mxTiming | mxFormat
  | mxVersion | mxData | mxBuild | mxRd | msScore | msSelect | build | rdCount | rdDark | rdMask | rdCfg =>
    exact ⟨_, fun _ => rfl⟩
  | _ => cases h

theorem opcodeField_encode (i : Instr) : opcodeField (encode i) = i.opcode :=
  (BitVec.eq_of_toNat_eq (encode_eq_iff.mp rfl).1).symm

/-- Settles O15: a legal word meets the check for a symbol first; a word out of its ranges is illegal before that. -/
theorem sequenceErrorWithoutSymbol : Obligations.SequenceErrorWithoutSymbol := by
  intro i s hneeds he hv
  obtain ⟨k, hk⟩ := rule_of_needsSymbol hneeds
  have hfails : exec i s = .next (s.failed 6 i) := exec_of_unconfigured hk ⟨he, hv⟩
  refine ⟨fun hwf => ⟨hfails, (runWord_of_legal (decodeEncodeRoundTrip i hwf) s).trans hfails⟩, fun hwf => ?_⟩
  rw [runWord_of_illegal_ready (decode_encode_of_not_wellFormed hwf) he, opcodeField_encode]

/-- A command whose rule always succeeds and keeps the absence of an error raises none. -/
theorem exec_raises_no_error {i : Instr} {s : State} {f : State → State}
    (hi : ∀ s, exec i s = runCommand i.opcode (fun s => .ok (f s)) s) (he : s.err = 0) (hf : (f s).err = 0) :
    ∃ t, exec i s = .next t ∧ t.err = 0 :=
  ⟨f s, exec_of_rule_ok hi he rfl, hf⟩

/-- Settles O16: each rule of the list succeeds, and keeps the error code or clears it. -/
theorem commandsThatNeverFail : Obligations.CommandsThatNeverFail := by
  intro i s h he
  cases i with
  | errClr | softReset => exact exec_raises_no_error (fun _ => rfl) he rfl
  | nop | ident | gfExp | gfMul | gfAdd | bchFmt | bchVer | pClr | pLen | bbClr | bbLen | cwLen =>
    exact exec_raises_no_error (fun _ => rfl) he he
  | _ => cases h

end Sys2Proof.Machine
end
